-- ==== Sys2Proof/Word.lean ====
section
/-!
DEFINITION. The words of the coach link and the plainest arithmetic on them.
-/

namespace Sys2Proof

/-- One byte on the coach link (09_the_coach_link.md 9.1). -/
abbrev Byte := BitVec 8

/-- A two-byte field of the coach link, sent most significant byte first; signed fields are two's complement. -/
abbrev Half := BitVec 16

end Sys2Proof
end

