-- ==== Sys2Proof/Syntax.lean ====
section
/-!
DEFINITION. The names of the manual (groups, jacks, rooms, channels, sources), the readings a command carries,
and the commands themselves: `Instr`, one constructor for each row of spec/opcode_table.json.
-/

namespace Sys2Proof

/-! ## Groups, jacks, rooms (00_scope.md 0.3) -/

/-- The six jacks, numbered 0 to 5 in this order. -/
inductive JackId where
  | lf | rf | lm | rm | lr | rr
  deriving DecidableEq, Repr

/-- The four rooms. -/
inductive RoomId where
  | room0 | room1 | room2 | room3
  deriving DecidableEq, Repr

/-- The two drives of a room. -/
inductive Drive where
  | fore | aft
  deriving DecidableEq, Repr

/-- The motion groups. -/
inductive Group where
  | jacks
  | room (r : RoomId)
  | awning
  deriving DecidableEq, Repr

/-- The three stations of jacks. -/
inductive Station where
  | front | middle | rear
  deriving DecidableEq, Repr

/-- The twenty drive channels (R140). -/
inductive ChannelId where
  | pump
  | valve (j : JackId)
  | drive (r : RoomId) (d : Drive)
  | pin (r : RoomId)
  | awning
  deriving DecidableEq, Repr

def JackId.all : List JackId := [.lf, .rf, .lm, .rm, .lr, .rr]
def RoomId.all : List RoomId := [.room0, .room1, .room2, .room3]
def Drive.other : Drive → Drive
  | .fore => .aft
  | .aft => .fore
def Group.all : List Group := [.jacks, .room .room0, .room .room1, .room .room2, .room .room3, .awning]

/-! ## One value for each jack, room, group, channel -/

structure PerJack (α : Type) where
  lf : α
  rf : α
  lm : α
  rm : α
  lr : α
  rr : α
  deriving DecidableEq, Repr

def PerJack.get {α : Type} (p : PerJack α) : JackId → α
  | .lf => p.lf | .rf => p.rf | .lm => p.lm | .rm => p.rm | .lr => p.lr | .rr => p.rr

def PerJack.set {α : Type} (p : PerJack α) (j : JackId) (v : α) : PerJack α :=
  match j with
  | .lf => { p with lf := v } | .rf => { p with rf := v } | .lm => { p with lm := v }
  | .rm => { p with rm := v } | .lr => { p with lr := v } | .rr => { p with rr := v }

/-- The value `f j` for every jack. -/
def PerJack.tab {α : Type} (f : JackId → α) : PerJack α :=
  { lf := f .lf, rf := f .rf, lm := f .lm, rm := f .rm, lr := f .lr, rr := f .rr }

def PerJack.all {α : Type} (v : α) : PerJack α := .tab fun _ => v

structure PerRoom (α : Type) where
  room0 : α
  room1 : α
  room2 : α
  room3 : α
  deriving DecidableEq, Repr

def PerRoom.get {α : Type} (p : PerRoom α) : RoomId → α
  | .room0 => p.room0 | .room1 => p.room1 | .room2 => p.room2 | .room3 => p.room3

def PerRoom.set {α : Type} (p : PerRoom α) (r : RoomId) (v : α) : PerRoom α :=
  match r with
  | .room0 => { p with room0 := v } | .room1 => { p with room1 := v }
  | .room2 => { p with room2 := v } | .room3 => { p with room3 := v }

/-- The value `f r` for every room. -/
def PerRoom.tab {α : Type} (f : RoomId → α) : PerRoom α :=
  { room0 := f .room0, room1 := f .room1, room2 := f .room2, room3 := f .room3 }

def PerRoom.all {α : Type} (v : α) : PerRoom α := .tab fun _ => v

structure PerGroup (α : Type) where
  jacks : α
  rooms : PerRoom α
  awning : α
  deriving DecidableEq, Repr

def PerGroup.get {α : Type} (p : PerGroup α) : Group → α
  | .jacks => p.jacks
  | .room r => p.rooms.get r
  | .awning => p.awning

def PerGroup.set {α : Type} (p : PerGroup α) (g : Group) (v : α) : PerGroup α :=
  match g with
  | .jacks => { p with jacks := v }
  | .room r => { p with rooms := p.rooms.set r v }
  | .awning => { p with awning := v }

/-- The value `f g` for every group. -/
def PerGroup.tab {α : Type} (f : Group → α) : PerGroup α :=
  { jacks := f .jacks, rooms := .tab fun r => f (.room r), awning := f .awning }

def PerGroup.all {α : Type} (v : α) : PerGroup α := .tab fun _ => v

structure PerChannel (α : Type) where
  pump : α
  valve : PerJack α
  fore : PerRoom α
  aft : PerRoom α
  pin : PerRoom α
  awning : α
  deriving DecidableEq, Repr

def PerChannel.get {α : Type} (p : PerChannel α) : ChannelId → α
  | .pump => p.pump
  | .valve j => p.valve.get j
  | .drive r .fore => p.fore.get r
  | .drive r .aft => p.aft.get r
  | .pin r => p.pin.get r
  | .awning => p.awning

def PerChannel.set {α : Type} (p : PerChannel α) (c : ChannelId) (v : α) : PerChannel α :=
  match c with
  | .pump => { p with pump := v }
  | .valve j => { p with valve := p.valve.set j v }
  | .drive r .fore => { p with fore := p.fore.set r v }
  | .drive r .aft => { p with aft := p.aft.set r v }
  | .pin r => { p with pin := p.pin.set r v }
  | .awning => { p with awning := v }

/-- The value `f c` for every channel. -/
def PerChannel.tab {α : Type} (f : ChannelId → α) : PerChannel α :=
  { pump := f .pump
    valve := .tab fun j => f (.valve j)
    fore := .tab fun r => f (.drive r .fore)
    aft := .tab fun r => f (.drive r .aft)
    pin := .tab fun r => f (.pin r)
    awning := f .awning }

def PerChannel.all {α : Type} (v : α) : PerChannel α := .tab fun _ => v

/-! ## What a request may name -/

/-- The end a MOVE names (R55, R83). -/
inductive EndCode where
  | inn | out | position
  deriving DecidableEq, Repr

/-- The direction of an envelope entry (R123). -/
inductive Direction where
  | extend | retract | both
  deriving DecidableEq, Repr

/-- The sources of an envelope entry (R123). -/
inductive EnvSource where
  | stroke (j : JackId)
  | foreCount (r : RoomId)
  | awningCount
  | jacksDown
  | awningOut
  deriving DecidableEq, Repr

/-- The sources of a watch unit (R129). -/
inductive WatchSource where
  | stroke (j : JackId)
  | pressure (j : JackId)
  | foreCount (r : RoomId)
  | aftCount (r : RoomId)
  | awningCount
  | current (c : ChannelId)
  | pitch
  | roll
  | gust
  | sustained
  | battery
  deriving DecidableEq, Repr

/-- The action of a watch unit (R129). -/
inductive WatchAction where
  | stopGroup (g : Group)
  | freezeAll
  deriving DecidableEq, Repr

/-- The contents of an envelope entry, without its locked field (R123). -/
structure EnvContents where
  enabled : Bool
  subject : Group
  direction : Direction
  source : EnvSource
  low : Half
  high : Half
  outside : Bool
  deriving DecidableEq, Repr

/-- The contents of a watch unit, without its hit (R129). -/
structure WatchContents where
  enabled : Bool
  source : WatchSource
  low : Half
  high : Half
  outside : Bool
  action : WatchAction
  deriving DecidableEq, Repr

/-- The two parts of the levelling result record (R173). -/
inductive LevelPart where
  | summary | perJack
  deriving DecidableEq, Repr

/-- A request that has passed the link port's checks (R169), as its owner sees it.
Numbers with a natural bound, and numbers the owner refuses itself, stay bytes. -/
inductive Request where
  | identify
  | readCapability (offset count : Byte)
  | readStatus
  | readCounters
  | roomMove (r : RoomId) (e : EndCode) (v : Half)
  | jog (j : JackId) (v : Half)
  | awningMove (e : EndCode) (v : Half)
  | hold (mask : Byte)
  | stop (mask : Byte)
  | roomHome (r : RoomId)
  | awningHome
  | levelAuto
  | levelStow
  | resume (mask : Byte)
  | readGroup (g : Group)
  | readStopRecord (g : Group)
  | readLevelResult (p : LevelPart)
  | clearAttention (mask : Byte)
  | readEnvelope (index : Byte)
  | writeEnvelope (index : Byte) (c : EnvContents)
  | lockEnvelope (index : Byte)
  | readWatch (index : Byte)
  | writeWatch (index : Byte) (c : WatchContents)
  | clearWatchHits (mask : Byte)
  | storeTables
  | circuitTest (c : ChannelId)
  | readHealth (first : ChannelId) (count : Byte)
  | readSetting (group item : Byte)
  | writeSetting (group item : Byte) (v : Half)
  | lockCalibration (group : Byte)
  | zeroTilt
  | dormant
  | wake
  | reset
  deriving DecidableEq, Repr

/-! ## What the sensors and the wiring deliver -/

/-- The seven strap pins (R1): ROOMS is read from three of them. -/
structure StrapPins where
  sixJacks : Bool
  roomPins : BitVec 3
  awning : Bool
  supply24 : Bool
  airsusp : Bool
  deriving DecidableEq, Repr

/-- The raw levels of the six chassis inputs (R15): `keyOff` is the lockout key off. -/
structure RawInputs where
  parkSet : Bool
  ignition : Bool
  engine : Bool
  charging : Bool
  airDumped : Bool
  keyOff : Bool
  deriving DecidableEq, Repr

/-- The six chassis inputs (R15). -/
inductive InputId where
  | parkSet | ignition | engine | charging | airDumped | keyOff
  deriving DecidableEq, Repr

/-- One jack's two conversions of a sample set (R7); none is a missing conversion. -/
structure JackReading where
  stroke : Option Int
  pressure : Option Int
  deriving DecidableEq, Repr

/-- The raw contacts of one room at a sample set (R10): true is made. -/
structure RoomContacts where
  foreIn : Bool
  aftIn : Bool
  withdrawn : Bool
  engaged : Bool
  deriving DecidableEq, Repr

/-- One sample set (R3): the raw tilt reading (none: no reading), the jack conversions, the raw room and awning
contacts and the battery conversion (none: missing). The drive counts are the front end's own. -/
structure SampleSet where
  tilt : Option (Int × Int)
  jacks : PerJack JackReading
  rooms : PerRoom RoomContacts
  stowed : Bool
  battery : Option Int
  deriving DecidableEq, Repr

/-- A receiver of the values of a sample set (R3), or the controller of a switch whose change the set completes. The order
in which they take one set is the device's (R125, R131, R132). -/
inductive Consumer where
  | levelling
  | room (r : RoomId)
  | awning
  | watches
  | envelope
  | arbiter
  | inStop (r : RoomId) (d : Drive)
  | pin (r : RoomId)
  | stowedSwitch
  deriving DecidableEq, Repr

/-- The measured axes that count encoder steps (R9). -/
inductive CountAxis where
  | drive (r : RoomId) (d : Drive)
  | awning
  deriving DecidableEq, Repr

/-- The lock pin's debounced state (R10). -/
inductive PinState where
  | withdrawn | engaged | between | invalid
  deriving DecidableEq, Repr

/-- What runs under hold-to-run: a jog or a room operation (R49, R68). -/
inductive HoldAxis where
  | jog
  | room (r : RoomId)
  deriving DecidableEq, Repr

/-- The two faults that FRAMING_FAULT stands for (R164). -/
inductive FramingCause where
  | badLength (b : Byte)
  | noStopBit
  deriving DecidableEq, Repr

/-- Which table groups a power loss during STORE_TABLES leaves torn (R177: "either group or both"). -/
inductive TornTables where
  | envelope | watch | both
  deriving DecidableEq, Repr

/-- The commands: one constructor for each row of spec/opcode_table.json, in the table's order.
A request row carries the tag of its frame (9.1); `set` and `raw` are the first sample set and the first raw input
samples that a start-up or a waking takes within the command (R183, R184). -/
inductive Instr where
  | powerOn (pins : StrapPins) (raw : RawInputs) (set : SampleSet)
  | frameReceived (bytes : List Byte)
  | interByteGapTimeout (got : List Byte)
  | requestTaken (set : SampleSet)
  | frameTransmitComplete (raw : RawInputs) (set : SampleSet)
  | identify (tag : Byte)
  | readCapability (tag offset count : Byte)
  | readStatus (tag : Byte)
  | readCounters (tag : Byte)
  | move (tag : Byte) (r : RoomId) (e : EndCode) (v : Half)
  | jog (tag : Byte) (j : JackId) (v : Half)
  | awningMove (tag : Byte) (e : EndCode) (v : Half)
  | hold (tag mask : Byte)
  | stop (tag mask : Byte)
  | home (tag : Byte) (r : RoomId)
  | awningHome (tag : Byte)
  | levelAuto (tag : Byte)
  | levelStow (tag : Byte)
  | resume (tag mask : Byte)
  | readGroup (tag : Byte) (g : Group)
  | readStopRecord (tag : Byte) (g : Group)
  | readLevelResult (tag : Byte) (p : LevelPart)
  | clearAttention (tag mask : Byte)
  | readEnvelope (tag index : Byte)
  | writeEnvelope (tag index : Byte) (c : EnvContents)
  | lockEnvelope (tag index : Byte)
  | readWatch (tag index : Byte)
  | writeWatch (tag index : Byte) (c : WatchContents)
  | clearWatchHits (tag mask : Byte)
  | storeTables (tag : Byte)
  | circuitTest (tag : Byte) (c : ChannelId)
  | readHealth (tag : Byte) (first : ChannelId) (count : Byte)
  | readSetting (tag group item : Byte)
  | writeSetting (tag group item : Byte) (v : Half)
  | lockCalibration (tag group : Byte)
  | zeroTilt (tag : Byte)
  | dormant (tag : Byte)
  | wake (tag : Byte) (set : SampleSet)
  | reset (tag : Byte)
  | sampleInterval (set : SampleSet) (order : List Consumer)
  | jackSensorFaultClear (j : JackId)
  | encoderStep (a : CountAxis) (outward : Bool)
  | anemometerPulse
  | inStopChange (r : RoomId) (d : Drive) (made : Bool)
  | pinStateChange (r : RoomId) (p : PinState)
  | stowedSwitchChange (made : Bool)
  | parkBrakeReleased
  | parkBrakeSet
  | ignitionOn (set : SampleSet)
  | ignitionOff
  | engineOrChargingChange (charging : Bool)
  | airDumpedChange
  | lockoutKeyOn
  | lockoutKeyOff
  | channelReadingInterval (readings : PerChannel Nat)
  | overcurrentTrip (c : ChannelId)
  | openCircuit (c : ChannelId)
  | roomDriveStall (r : RoomId) (d : Drive)
  | awningStall
  | controlInterval (r : RoomId)
  | pinTimer (r : RoomId)
  | holdTimer (a : HoldAxis)
  | resumeWindow (a : HoldAxis)
  | roomTimeBudget (r : RoomId)
  | awningRunTime
  | awningSupplyWaitBound
  | awningSuspensionBound
  | windWindow
  | windLockoutOff
  | airDumpWait
  | supplyWaitBound
  | suspensionBound
  | settleTimer
  | stepSettle
  | runTimer
  | jogRunTimeBudget
  | driftTimer
  | sagComplete
  | recoveryComplete
  | lowVoltageEntry
  | lowVoltageExit
  | testReadingA (mA mV : Nat)
  | testComplete (mA mV : Nat)
  | storeWriteComplete
  | inputInterval (raw : RawInputs)
  | framingFault (got : List Byte) (cause : FramingCause)
  | powerLoss (torn : TornTables)
  deriving DecidableEq, Repr

end Sys2Proof
end

