-- ==== Sys2Proof/Config.lean ====
section
/-!
DEFINITION. The settings groups (10 R174) and their factory defaults (2.1, 2.7, 3.1, 4.1, 5.1, R128, R135).
Items are whole numbers in the range of a 16-bit signed value. No value of the manual is left free: there is no
opaque constant here.
-/

namespace Sys2Proof

/-- GEOMETRY (group 0). -/
structure Geometry where
  x : PerJack Int
  y : PerJack Int
  strokeMax : Int
  liftLimit : Int
  deriving DecidableEq, Repr

/-- One room's items of ROOM_CAL (group 1): counts, counts, A. -/
structure RoomCal where
  travel : Int
  endWindow : Int
  stall : Int
  deriving DecidableEq, Repr

/-- AWNING_CAL (group 2). -/
structure AwningCal where
  travel : Int
  pulseFactor : Int
  deriving DecidableEq, Repr

/-- TILT_CAL (group 3). -/
structure TiltCal where
  pitch : Int
  roll : Int
  deriving DecidableEq, Repr

/-- LEVEL (group 4). -/
structure LevelSet where
  steepness : Int
  contact : Int
  baseLift : Int
  settleMs : Int
  band : Int
  maxPasses : Int
  lightShare : Int
  deriving DecidableEq, Repr

/-- ROOM_RUN (group 5): counts, % per count, counts, %, %, ms, s, s. -/
structure RoomRun where
  syncWindow : Int
  correction : Int
  faultLimit : Int
  extendDuty : Int
  retractDuty : Int
  holdLapse : Int
  resumeWindow : Int
  timeBudget : Int
  deriving DecidableEq, Repr

/-- AWNING_RUN (group 6): 0.1 m/s, 0.1 m/s, 0.1 m/s, s. -/
structure AwningRun where
  sustainedStow : Int
  gustStow : Int
  release : Int
  lockoutTime : Int
  deriving DecidableEq, Repr

/-- SUPPLY (group 7), A. -/
structure SupplySet where
  pump : Int
  room : Int
  awning : Int
  deriving DecidableEq, Repr

/-- The items of groups 0 to 7. -/
structure Settings where
  geometry : Geometry
  roomCal : PerRoom RoomCal
  awningCal : AwningCal
  tiltCal : TiltCal
  level : LevelSet
  roomRun : RoomRun
  awningRun : AwningRun
  supply : SupplySet
  deriving DecidableEq, Repr

/-- The factory defaults of groups 0 to 7. -/
def Config.factory : Settings where
  geometry :=
    { x := { lf := 4200, rf := 4200, lm := -1500, rm := -1500, lr := -4800, rr := -4800 }
      y := { lf := -1250, rf := 1250, lm := -1250, rm := 1250, lr := -1250, rr := 1250 }
      strokeMax := 460, liftLimit := 150 }
  roomCal := .all { travel := 1600, endWindow := 24, stall := 32 }
  awningCal := { travel := 2400, pulseFactor := 28 }
  tiltCal := { pitch := 0, roll := 0 }
  level :=
    { steepness := 1200, contact := 15, baseLift := 20, settleMs := 2000, band := 30, maxPasses := 5, lightShare := 30 }
  roomRun :=
    { syncWindow := 6, correction := 4, faultLimit := 40, extendDuty := 90, retractDuty := 80, holdLapse := 300
      resumeWindow := 10, timeBudget := 40 }
  awningRun := { sustainedStow := 80, gustStow := 130, release := 50, lockoutTime := 600 }
  supply := { pump := 150, room := 80, awning := 18 }

/-- The factory envelope entries 2 to 15 (R128). -/
def Config.factoryEnvelopeRest : EnvContents :=
  { enabled := false, subject := .awning, direction := .both, source := .jacksDown, low := 0, high := 0, outside := false }

/-- The factory envelope table (R128). -/
def Config.factoryEnvelope : List EnvContents :=
  { enabled := true, subject := .room .room0, direction := .retract, source := .awningCount
    low := 200, high := 4000, outside := false } ::
  { enabled := true, subject := .awning, direction := .extend, source := .foreCount .room0
    low := 50, high := 1550, outside := false } ::
  List.replicate 14 Config.factoryEnvelopeRest

/-- The factory watch unit (R135). -/
def Config.factoryWatch : WatchContents :=
  { enabled := false, source := .battery, low := 0, high := 0, outside := false, action := .freezeAll }

/-- The factory watch table (R135). -/
def Config.factoryWatches : List WatchContents := List.replicate 4 Config.factoryWatch

end Sys2Proof
end

