-- ==== Sys2Proof/WellFormed.lean ====
section
/-!
DEFINITION. What the link port has already checked when a request reaches its owner (R169): the bytes of a request that
the syntax leaves wide lie within the codes of their kind. The last definition lifts it to commands.
-/

namespace Sys2Proof

/-- How many items a settings group has (R174); ENVELOPE, WATCH and undefined groups have none to name. -/
def itemCount (group : Byte) : Nat :=
  match group.toNat with
  | 0 => 14
  | 1 => 12
  | 2 => 2
  | 3 => 2
  | 4 => 7
  | 5 => 8
  | 6 => 4
  | 7 => 3
  | _ => 0

/-- A mask has no bit set at or above `n` (R169). -/
def maskWithin (n : Nat) (mask : Byte) : Bool := decide (mask.toNat < 2 ^ n)

/-- The value of a MOVE with end IN or OUT is not read, so any will do (9.5). The sources an envelope entry or a watch
unit names are all coded, so its contents need no further check; a stance-flag or numberless source has no number. -/
def Request.wf : Request → Bool
  | .identify => true
  | .readCapability _ _ => true
  | .readStatus => true
  | .readCounters => true
  | .roomMove _ _ _ => true
  | .jog _ _ => true
  | .awningMove _ _ => true
  | .hold mask => maskWithin 6 mask
  | .stop mask => maskWithin 6 mask
  | .roomHome _ => true
  | .awningHome => true
  | .levelAuto => true
  | .levelStow => true
  | .resume mask => maskWithin 6 mask
  | .readGroup _ => true
  | .readStopRecord _ => true
  | .readLevelResult _ => true
  | .clearAttention mask => maskWithin 7 mask
  | .readEnvelope _ => true
  | .writeEnvelope _ _ => true
  | .lockEnvelope _ => true
  | .readWatch _ => true
  | .writeWatch _ _ => true
  | .clearWatchHits mask => maskWithin 4 mask
  | .storeTables => true
  | .circuitTest _ => true
  | .readHealth _ _ => true
  | .readSetting group item => decide (item.toNat < itemCount group)
  | .writeSetting group item _ => decide (item.toNat < itemCount group)
  | .lockCalibration group => decide (group.toNat < 10)
  | .zeroTilt => true
  | .dormant => true
  | .wake => true
  | .reset => true

/-- The tag and the request of a request row; no other row carries one. -/
def Instr.request? : Instr → Option (Byte × Request)
  | .identify t => some (t, .identify)
  | .readCapability t o n => some (t, .readCapability o n)
  | .readStatus t => some (t, .readStatus)
  | .readCounters t => some (t, .readCounters)
  | .move t r e v => some (t, .roomMove r e v)
  | .jog t j v => some (t, .jog j v)
  | .awningMove t e v => some (t, .awningMove e v)
  | .hold t m => some (t, .hold m)
  | .stop t m => some (t, .stop m)
  | .home t r => some (t, .roomHome r)
  | .awningHome t => some (t, .awningHome)
  | .levelAuto t => some (t, .levelAuto)
  | .levelStow t => some (t, .levelStow)
  | .resume t m => some (t, .resume m)
  | .readGroup t g => some (t, .readGroup g)
  | .readStopRecord t g => some (t, .readStopRecord g)
  | .readLevelResult t p => some (t, .readLevelResult p)
  | .clearAttention t m => some (t, .clearAttention m)
  | .readEnvelope t i => some (t, .readEnvelope i)
  | .writeEnvelope t i c => some (t, .writeEnvelope i c)
  | .lockEnvelope t i => some (t, .lockEnvelope i)
  | .readWatch t i => some (t, .readWatch i)
  | .writeWatch t i c => some (t, .writeWatch i c)
  | .clearWatchHits t m => some (t, .clearWatchHits m)
  | .storeTables t => some (t, .storeTables)
  | .circuitTest t c => some (t, .circuitTest c)
  | .readHealth t c n => some (t, .readHealth c n)
  | .readSetting t g i => some (t, .readSetting g i)
  | .writeSetting t g i v => some (t, .writeSetting g i v)
  | .lockCalibration t g => some (t, .lockCalibration g)
  | .zeroTilt t => some (t, .zeroTilt)
  | .dormant t => some (t, .dormant)
  | .wake t _ => some (t, .wake)
  | .reset t => some (t, .reset)
  | _ => none

/-- A length byte outside 2 to 50 (R164). -/
def badLengthByte (b : Byte) : Bool := decide (b.toNat < 2) || decide (50 < b.toNat)

/-- A command that the world outside can send: a request row past the link port's checks, a fault that is one.
Everything else is well formed as it stands. -/
def Instr.wf (i : Instr) : Bool :=
  match i with
  | .framingFault _ (.badLength b) => badLengthByte b
  | _ =>
    match i.request? with
    | some p => p.2.wf
    | none => true

end Sys2Proof
end

