-- ==== Sys2Proof/Decode.lean ====
section
/-!
DEFINITION. The codes of the coach link (9.4, 9.5), the decoding of a request frame's kind and payload with the link
port's checks (R169), its encoder, and the check of a frame (R164). The opcode table gives its rows no bits, so a table
word spells no command.
-/

namespace Sys2Proof

/-- No row of spec/opcode_table.json has bits: no word spells a command. -/
def decodeTableWord (_nbits _w : Nat) : Option Instr := none

/-! ## Numbers and codes (0.3, R140, 9.4) -/

def JackId.num : JackId → Nat
  | .lf => 0
  | .rf => 1
  | .lm => 2
  | .rm => 3
  | .lr => 4
  | .rr => 5

def JackId.ofNum : Nat → Option JackId
  | 0 => some .lf
  | 1 => some .rf
  | 2 => some .lm
  | 3 => some .rm
  | 4 => some .lr
  | 5 => some .rr
  | _ => none

def RoomId.num : RoomId → Nat
  | .room0 => 0
  | .room1 => 1
  | .room2 => 2
  | .room3 => 3

def RoomId.ofNum : Nat → Option RoomId
  | 0 => some .room0
  | 1 => some .room1
  | 2 => some .room2
  | 3 => some .room3
  | _ => none

/-- Channel numbers (R140). -/
def ChannelId.num : ChannelId → Nat
  | .pump => 0
  | .valve j => 1 + j.num
  | .drive r .fore => 7 + 2 * r.num
  | .drive r .aft => 8 + 2 * r.num
  | .pin r => 15 + r.num
  | .awning => 19

/-- The twenty channels in number order (R140). -/
def ChannelId.all : List ChannelId :=
  [.pump, .valve .lf, .valve .rf, .valve .lm, .valve .rm, .valve .lr, .valve .rr,
    .drive .room0 .fore, .drive .room0 .aft, .drive .room1 .fore, .drive .room1 .aft,
    .drive .room2 .fore, .drive .room2 .aft, .drive .room3 .fore, .drive .room3 .aft,
    .pin .room0, .pin .room1, .pin .room2, .pin .room3, .awning]

def ChannelId.ofNum (n : Nat) : Option ChannelId := ChannelId.all[n]?

def Group.code : Group → Nat
  | .jacks => 0
  | .room r => 1 + r.num
  | .awning => 5

def Group.ofCode : Nat → Option Group
  | 0 => some .jacks
  | 1 => some (.room .room0)
  | 2 => some (.room .room1)
  | 3 => some (.room .room2)
  | 4 => some (.room .room3)
  | 5 => some .awning
  | _ => none

def EndCode.code : EndCode → Nat
  | .inn => 0
  | .out => 1
  | .position => 2

def EndCode.ofCode : Nat → Option EndCode
  | 0 => some .inn
  | 1 => some .out
  | 2 => some .position
  | _ => none

def Direction.code : Direction → Nat
  | .extend => 0
  | .retract => 1
  | .both => 2

def Direction.ofCode : Nat → Option Direction
  | 0 => some .extend
  | 1 => some .retract
  | 2 => some .both
  | _ => none

/-- The source number of a kind that has none: "none", 0xFF (9.4, notes 12). -/
def noNumber : Nat := 255

/-- Source kind and number of an envelope source (9.4). -/
def EnvSource.code : EnvSource → Nat × Nat
  | .stroke j => (0, j.num)
  | .foreCount r => (2, r.num)
  | .awningCount => (4, noNumber)
  | .jacksDown => (11, noNumber)
  | .awningOut => (12, noNumber)

def EnvSource.ofCode (kind number : Nat) : Option EnvSource :=
  match kind with
  | 0 => (JackId.ofNum number).map .stroke
  | 2 => (RoomId.ofNum number).map .foreCount
  | 4 => some .awningCount
  | 11 => some .jacksDown
  | 12 => some .awningOut
  | _ => none

/-- Source kind and number of a watch source (9.4). -/
def WatchSource.code : WatchSource → Nat × Nat
  | .stroke j => (0, j.num)
  | .pressure j => (1, j.num)
  | .foreCount r => (2, r.num)
  | .aftCount r => (3, r.num)
  | .awningCount => (4, noNumber)
  | .current c => (5, c.num)
  | .pitch => (6, noNumber)
  | .roll => (7, noNumber)
  | .gust => (8, noNumber)
  | .sustained => (9, noNumber)
  | .battery => (10, noNumber)

def WatchSource.ofCode (kind number : Nat) : Option WatchSource :=
  match kind with
  | 0 => (JackId.ofNum number).map .stroke
  | 1 => (JackId.ofNum number).map .pressure
  | 2 => (RoomId.ofNum number).map .foreCount
  | 3 => (RoomId.ofNum number).map .aftCount
  | 4 => some .awningCount
  | 5 => (ChannelId.ofNum number).map .current
  | 6 => some .pitch
  | 7 => some .roll
  | 8 => some .gust
  | 9 => some .sustained
  | 10 => some .battery
  | _ => none

/-! ## Fields -/

def half (hi lo : Byte) : Half := hi ++ lo

def hiByte (v : Half) : Byte := v.extractLsb' 8 8

def loByte (v : Half) : Byte := v.extractLsb' 0 8

def bitByte (b : Bool) (n : Nat) : Nat := if b then 2 ^ n else 0

/-! ## The catalogue (9.5) -/

/-- The request kinds of the catalogue. -/
def Request.kind : Request → Nat
  | .identify => 0x01
  | .readCapability _ _ => 0x02
  | .readStatus => 0x03
  | .readCounters => 0x04
  | .roomMove _ _ _ => 0x10
  | .jog _ _ => 0x10
  | .awningMove _ _ => 0x10
  | .hold _ => 0x11
  | .stop _ => 0x12
  | .roomHome _ => 0x13
  | .awningHome => 0x13
  | .levelAuto => 0x14
  | .levelStow => 0x14
  | .resume _ => 0x15
  | .readGroup _ => 0x20
  | .readStopRecord _ => 0x21
  | .readLevelResult _ => 0x22
  | .clearAttention _ => 0x23
  | .readEnvelope _ => 0x30
  | .writeEnvelope _ _ => 0x31
  | .lockEnvelope _ => 0x32
  | .readWatch _ => 0x33
  | .writeWatch _ _ => 0x34
  | .clearWatchHits _ => 0x35
  | .storeTables => 0x36
  | .circuitTest _ => 0x40
  | .readHealth _ _ => 0x41
  | .readSetting _ _ => 0x50
  | .writeSetting _ _ _ => 0x51
  | .lockCalibration _ => 0x52
  | .zeroTilt => 0x53
  | .dormant => 0x60
  | .wake => 0x61
  | .reset => 0x62

/-- The payload length of a kind (9.5); none for a kind that is not in the catalogue. -/
def payloadLength (kind : Nat) : Option Nat :=
  match kind with
  | 0x01 => some 0
  | 0x02 => some 2
  | 0x03 => some 0
  | 0x04 => some 0
  | 0x10 => some 5
  | 0x11 => some 1
  | 0x12 => some 1
  | 0x13 => some 1
  | 0x14 => some 1
  | 0x15 => some 1
  | 0x20 => some 1
  | 0x21 => some 1
  | 0x22 => some 1
  | 0x23 => some 1
  | 0x30 => some 1
  | 0x31 => some 9
  | 0x32 => some 1
  | 0x33 => some 1
  | 0x34 => some 9
  | 0x35 => some 1
  | 0x36 => some 0
  | 0x40 => some 1
  | 0x41 => some 2
  | 0x50 => some 2
  | 0x51 => some 4
  | 0x52 => some 1
  | 0x53 => some 0
  | 0x60 => some 0
  | 0x61 => some 0
  | 0x62 => some 0
  | _ => none

/-- The arguments of a MOVE: a jack is read only for JACKS, which takes POSITION alone; the value stands as it came, and
an owner with end IN or OUT reads none (9.5, R169). -/
def decodeMove (g jack e : Byte) (v : Half) : Option Request :=
  match Group.ofCode g.toNat, EndCode.ofCode e.toNat with
  | some .jacks, some .position => (JackId.ofNum jack.toNat).map fun j => .jog j v
  | some (.room r), some c => some (.roomMove r c v)
  | some .awning, some c => some (.awningMove c v)
  | _, _ => none

/-- A HOME names a room or the awning (R169). -/
def decodeHome (g : Byte) : Option Request :=
  match Group.ofCode g.toNat with
  | some (.room r) => some (.roomHome r)
  | some .awning => some .awningHome
  | _ => none

def decodeLevel (mode : Byte) : Option Request :=
  match mode.toNat with
  | 0 => some .levelAuto
  | 1 => some .levelStow
  | _ => none

def decodePart (part : Byte) : Option Request :=
  match part.toNat with
  | 0 => some (.readLevelResult .summary)
  | 1 => some (.readLevelResult .perJack)
  | _ => none

/-- An envelope entry as written: flags bit 0 enabled, 1 OUTSIDE, 2 and 3 direction; the other bits are not read (R126,
9.6, notes 12). -/
def decodeEnvelope (flags subject kind number : Byte) (low high : Half) : Option EnvContents :=
  match Group.ofCode subject.toNat, Direction.ofCode (flags.toNat / 4 % 4), EnvSource.ofCode kind.toNat number.toNat with
  | some g, some d, some x =>
    some
      { enabled := flags.getLsbD 0, subject := g, direction := d, source := x, low := low, high := high
        outside := flags.getLsbD 1 }
  | _, _, _ => none

/-- The action of a watch unit: flags bit 2 FREEZE_ALL, else STOP_GROUP with the group byte (9.6). -/
def decodeAction (freeze : Bool) (g : Byte) : Option WatchAction :=
  if freeze then some .freezeAll else (Group.ofCode g.toNat).map .stopGroup

def decodeWatch (flags kind number : Byte) (low high : Half) (g : Byte) : Option WatchContents :=
  match WatchSource.ofCode kind.toNat number.toNat, decodeAction (flags.getLsbD 2) g with
  | some x, some a =>
    some
      { enabled := flags.getLsbD 0, source := x, low := low, high := high, outside := flags.getLsbD 1, action := a }
  | _, _ => none

/-- The arguments of a request whose kind and length have passed: none is a field outside its codes (R169 step 3). -/
def decodeArguments (kind : Nat) (payload : List Byte) : Option Request :=
  match kind, payload with
  | 0x01, [] => some .identify
  | 0x02, [o, n] => some (.readCapability o n)
  | 0x03, [] => some .readStatus
  | 0x04, [] => some .readCounters
  | 0x10, [g, j, e, v1, v0] => decodeMove g j e (half v1 v0)
  | 0x11, [m] => some (.hold m)
  | 0x12, [m] => some (.stop m)
  | 0x13, [g] => decodeHome g
  | 0x14, [m] => decodeLevel m
  | 0x15, [m] => some (.resume m)
  | 0x20, [g] => (Group.ofCode g.toNat).map .readGroup
  | 0x21, [g] => (Group.ofCode g.toNat).map .readStopRecord
  | 0x22, [p] => decodePart p
  | 0x23, [m] => some (.clearAttention m)
  | 0x30, [i] => some (.readEnvelope i)
  | 0x31, [i, f, g, k, n, l1, l0, h1, h0] => (decodeEnvelope f g k n (half l1 l0) (half h1 h0)).map (.writeEnvelope i)
  | 0x32, [i] => some (.lockEnvelope i)
  | 0x33, [i] => some (.readWatch i)
  | 0x34, [i, f, k, n, l1, l0, h1, h0, g] => (decodeWatch f k n (half l1 l0) (half h1 h0) g).map (.writeWatch i)
  | 0x35, [m] => some (.clearWatchHits m)
  | 0x36, [] => some .storeTables
  | 0x40, [c] => (ChannelId.ofNum c.toNat).map .circuitTest
  | 0x41, [c, n] => (ChannelId.ofNum c.toNat).map fun x => .readHealth x n
  | 0x50, [g, i] => some (.readSetting g i)
  | 0x51, [g, i, v1, v0] => some (.writeSetting g i (half v1 v0))
  | 0x52, [g] => some (.lockCalibration g)
  | 0x53, [] => some .zeroTilt
  | 0x60, [] => some .dormant
  | 0x61, [] => some .wake
  | 0x62, [] => some .reset
  | _, _ => none

/-- What the link port refuses by itself (R169). -/
inductive LinkRefusal where
  | unknownKind | badLength | badArgument
  deriving DecidableEq, Repr

/-- The link port's checks in their order: kind, length, enumerations (R169). -/
def decodeRequest (kind : Nat) (payload : List Byte) : Except LinkRefusal Request :=
  match payloadLength kind with
  | none => .error .unknownKind
  | some n =>
    if payload.length ≠ n then .error .badLength
    else
      match decodeArguments kind payload with
      | some q => if q.wf then .ok q else .error .badArgument
      | none => .error .badArgument

/-! ## The encoder -/

def byteNum (n : Nat) : Byte := BitVec.ofNat 8 n

def encodeEnvelope (c : EnvContents) : List Byte :=
  [byteNum (bitByte c.enabled 0 + bitByte c.outside 1 + 4 * c.direction.code), byteNum c.subject.code,
    byteNum c.source.code.1, byteNum c.source.code.2, hiByte c.low, loByte c.low, hiByte c.high, loByte c.high]

def WatchAction.isFreeze : WatchAction → Bool
  | .freezeAll => true
  | .stopGroup _ => false

def WatchAction.groupCode : WatchAction → Nat
  | .freezeAll => noNumber
  | .stopGroup g => g.code

def encodeWatch (c : WatchContents) : List Byte :=
  [byteNum (bitByte c.enabled 0 + bitByte c.outside 1 + bitByte c.action.isFreeze 2), byteNum c.source.code.1,
    byteNum c.source.code.2, hiByte c.low, loByte c.low, hiByte c.high, loByte c.high, byteNum c.action.groupCode]

/-- The payload of a request (9.5); bytes that are not read stand as 0. -/
def Request.payload : Request → List Byte
  | .identify => []
  | .readCapability o n => [o, n]
  | .readStatus => []
  | .readCounters => []
  | .roomMove r e v => [byteNum (1 + r.num), 0, byteNum e.code, hiByte v, loByte v]
  | .jog j v => [0, byteNum j.num, 2, hiByte v, loByte v]
  | .awningMove e v => [5, 0, byteNum e.code, hiByte v, loByte v]
  | .hold m => [m]
  | .stop m => [m]
  | .roomHome r => [byteNum (1 + r.num)]
  | .awningHome => [5]
  | .levelAuto => [0]
  | .levelStow => [1]
  | .resume m => [m]
  | .readGroup g => [byteNum g.code]
  | .readStopRecord g => [byteNum g.code]
  | .readLevelResult .summary => [0]
  | .readLevelResult .perJack => [1]
  | .clearAttention m => [m]
  | .readEnvelope i => [i]
  | .writeEnvelope i c => i :: encodeEnvelope c
  | .lockEnvelope i => [i]
  | .readWatch i => [i]
  | .writeWatch i c => i :: encodeWatch c
  | .clearWatchHits m => [m]
  | .storeTables => []
  | .circuitTest c => [byteNum c.num]
  | .readHealth c n => [byteNum c.num, n]
  | .readSetting g i => [g, i]
  | .writeSetting g i v => [g, i, hiByte v, loByte v]
  | .lockCalibration g => [g]
  | .zeroTilt => []
  | .dormant => []
  | .wake => []
  | .reset => []

/-! ## The frame (R164, R165) -/

/-- One bit of the check: polynomial 0x1021, no reflection (9.1). -/
def crcBit (c : Half) : Half := if c.msb then (c <<< 1) ^^^ 0x1021 else c <<< 1

def crcBits (c : Half) : Nat → Half
  | 0 => c
  | n + 1 => crcBits (crcBit c) n

def crcByte (c : Half) (b : Byte) : Half := crcBits (c ^^^ (b ++ (0 : Byte))) 8

/-- CRC-16 over the bytes given, initial value 0xFFFF, no final inversion (9.1). -/
def crc16 (bytes : List Byte) : Half := bytes.foldl crcByte 0xFFFF

/-- A whole frame: start marker, length, kind, tag, payload, check (R164). -/
def frameBytes (kind tag : Byte) (payload : List Byte) : List Byte :=
  let body := byteNum (payload.length + 2) :: kind :: tag :: payload
  0xC3 :: body ++ [hiByte (crc16 body), loByte (crc16 body)]

end Sys2Proof
end

