-- ==== Sys2Proof/Machine/State.lean ====
section
/-!
DEFINITION. The state of the SV-460, block by block, and its value right after power-on. Plain data throughout.
Times are in ms, stroke and lift in mm, counts in 0.5 mm, tilt in tu, pressures in bar.
-/

namespace Sys2Proof.Machine

open Sys2Proof

/-! ## Power, straps, interval clocks -/

/-- Power control (11 R181 to R184); `off` is the part without supply. -/
inductive Power where
  | off | awake | dormant
  deriving DecidableEq, Repr

/-- The straps as read at power-on (R1). -/
structure Straps where
  sixJacks : Bool
  rooms : Nat
  awning : Bool
  supply24 : Bool
  airsusp : Bool
  deriving DecidableEq, Repr

/-- The time left to the next expiry of each interval (0.5, R3, R15, R143, R90). -/
structure Clock where
  sample : Nat
  input : Nat
  reading : Nat
  wind : Nat
  deriving DecidableEq, Repr

/-! ## Sensor front end -/

/-- A debounced contact (R10): the state its controllers were last told of, and the run of samples that differ from it. -/
structure Contact where
  made : Bool
  run : Nat
  deriving DecidableEq, Repr

/-- A drive's count (R9): the live value, and the value last handed on. -/
structure Count where
  live : Int
  handed : Int
  deriving DecidableEq, Repr

/-- One jack's readings (R7, R8): none is unknown. -/
structure JackSense where
  stroke : Option Int
  pressure : Option Int
  fault : Bool
  validRun : Nat
  latest : Int × Int
  deriving DecidableEq, Repr

/-- One room's counts and contacts (R9, R10). -/
structure RoomSense where
  fore : Count
  aft : Count
  foreIn : Contact
  aftIn : Contact
  withdrawn : Contact
  engaged : Contact
  deriving DecidableEq, Repr

structure FrontEnd where
  ring : List (Int × Int)
  pitch : Int
  roll : Int
  jacks : PerJack JackSense
  rooms : PerRoom RoomSense
  awningCount : Count
  stowed : Contact
  battery : Int
  missing : Nat
  pulses : Nat
  deriving DecidableEq, Repr

/-- One chassis input (R15, R16). -/
structure InputLine where
  level : Bool
  latch : Bool
  run : Nat
  deriving DecidableEq, Repr

/-- The six chassis inputs: `keyOff` is the lockout key off. -/
structure Inputs where
  parkSet : InputLine
  ignition : InputLine
  engine : InputLine
  charging : InputLine
  airDumped : InputLine
  keyOff : InputLine
  deriving DecidableEq, Repr

/-! ## Operations: causes, reasons, records -/

/-- The cause set of a suspended operation (R19, R51, R80). -/
structure Causes where
  supply : Bool
  freeze : Bool
  holdLapse : Bool
  deriving DecidableEq, Repr

/-- The stop reasons (R161), each with the index or channel it carries. -/
inductive Reason where
  | arrived
  | limited
  | hostStop
  | holdExpired
  | syncFault
  | obstruction
  | timeout
  | pinFault
  | watch (index : Nat)
  | envelope (index : Nat)
  | interlock
  | lowVoltage
  | circuitFault (c : ChannelId)
  | sensorFault
  | noGround
  | supplyTimeout
  | airNotDumped
  | tooSteep
  | wind
  deriving DecidableEq, Repr

/-- The operations a stop record names (R161). -/
inductive Operation where
  | move | home | jog | levelAuto | levelStow | stow
  deriving DecidableEq, Repr

/-- The positions of a stop record (R161). -/
inductive Positions where
  | strokes (s : PerJack (Option Int))
  | room (fore aft : Int)
  | awning (count : Int)
  deriving DecidableEq, Repr

/-- A stop record (R161): the outcome is ARRIVED exactly when the reason is. -/
structure StopRecord where
  op : Operation
  reason : Reason
  positions : Positions
  runMs : Nat
  peak : Nat
  deriving DecidableEq, Repr

/-! ## Levelling engine -/

/-- The idle states of JACKS (R19). -/
inductive JackIdle where
  | retracted | down | levelled | drifted
  deriving DecidableEq, Repr

/-- The phases of a LEVEL AUTO run (R19); the pass of DRIVE is the pass count. -/
inductive LevelPhase where
  | airDump | touchdown | drive | settle | loadCheck
  deriving DecidableEq, Repr

/-- The working states of JACKS (R19). -/
inductive JackWork where
  | levelling (p : LevelPhase)
  | stowing
  | jogging
  deriving DecidableEq, Repr

/-- The JACKS group state; SUSPENDED and TESTING remember what they left (R19). -/
inductive JackState where
  | idle (i : JackIdle)
  | work (w : JackWork)
  | suspended (w : JackWork)
  | testing (i : JackIdle)
  deriving DecidableEq, Repr

/-- What a JACKS operation captures (2.1). -/
structure JackCap where
  level : LevelSet
  geometry : Geometry
  draw : Nat
  holdLapse : Nat
  resumeWindow : Nat
  deriving DecidableEq, Repr

/-- The stored lift plan (R28). -/
structure LiftPlan where
  target : PerJack Int
  clamped : PerJack Bool
  deriving DecidableEq, Repr

/-- What the light jack being stepped is doing (R35). -/
inductive StepMode where
  | lifting | settling | retracting
  deriving DecidableEq, Repr

structure LightStep where
  jack : JackId
  made : Nat
  start : Int
  mode : StepMode
  deriving DecidableEq, Repr

/-- The jog in progress or last taken (R47, R48). -/
structure Jog where
  jack : JackId
  target : Int
  runMs : Nat
  deriving DecidableEq, Repr

/-- The outcome of a levelling run (R41). -/
inductive LevelOutcome where
  | levelled | limited | aborted
  deriving DecidableEq, Repr

/-- The levelling result record (R41). -/
structure LevelResult where
  outcome : LevelOutcome
  abort : Option Reason
  passes : Nat
  pitch : Int
  roll : Int
  baseLift : Int
  touch : PerJack (Option Int)
  target : PerJack (Option Int)
  stroke : PerJack (Option Int)
  pressure : PerJack (Option Int)
  clamped : PerJack Bool
  light : PerJack Bool
  noGround : PerJack Bool
  deriving DecidableEq, Repr

structure Levelling where
  st : JackState
  causes : Causes
  lapsed : Bool
  cap : JackCap
  passes : Nat
  tdStarted : Bool
  tdDone : Bool
  steepDone : Bool
  touch : PerJack (Option Int)
  plan : Option LiftPlan
  baseUsed : Int
  clamped : PerJack Bool
  light : PerJack Bool
  noGround : PerJack Bool
  station : Option Station
  doneFront : Bool
  doneMiddle : Bool
  doneRear : Bool
  tiltWait : Bool
  lightList : List JackId
  step : Option LightStep
  jog : Option Jog
  holdLeft : Option Nat
  resumeLeft : Option Nat
  airLeft : Option Nat
  waitLeft : Option Nat
  suspLeft : Option Nat
  settleLeft : Option Nat
  stepLeft : Option Nat
  runMs : Nat
  driftLeft : Option Nat
  driftWait : Bool
  result : Option LevelResult
  dumpReq : Bool
  deriving DecidableEq, Repr

/-! ## Room controllers -/

/-- The target of a MOVE (R55, R83). -/
inductive Target where
  | inn
  | out
  | position (n : Int)
  deriving DecidableEq, Repr

/-- The end position of a room or the awning (R52, R81). -/
inductive EndPosition where
  | inn
  | out
  | position (n : Int)
  | unknown
  deriving DecidableEq, Repr

/-- The working states of a room (R51). -/
inductive RoomWork where
  | waitSupply | preparing | moving | settling
  deriving DecidableEq, Repr

inductive RoomState where
  | idle
  | work (w : RoomWork)
  | suspended (w : RoomWork)
  | testing
  deriving DecidableEq, Repr

/-- What a room operation captures (3.1). -/
structure RoomCap where
  cal : RoomCal
  run : RoomRun
  draw : Nat
  deriving DecidableEq, Repr

structure Room where
  st : RoomState
  home : Bool
  target : Target
  causes : Causes
  lapsed : Bool
  cap : RoomCap
  foreStopped : Bool
  aftStopped : Bool
  known : Bool
  endPos : EndPosition
  holdLeft : Option Nat
  resumeLeft : Option Nat
  pinLeft : Option Nat
  ctrlLeft : Option Nat
  runMs : Nat
  deriving DecidableEq, Repr

/-! ## Awning controller and wind monitor -/

/-- The working states of the awning (R80). -/
inductive AwningWork where
  | waitSupply | moving | stowing
  deriving DecidableEq, Repr

inductive AwningState where
  | idle
  | work (w : AwningWork)
  | suspended (w : AwningWork)
  | testing
  deriving DecidableEq, Repr

inductive AwningOp where
  | move | home | stow
  deriving DecidableEq, Repr

inductive StowCause where
  | wind | driveAway
  deriving DecidableEq, Repr

/-- What an awning operation captures (4.1). -/
structure AwningCap where
  cal : AwningCal
  run : AwningRun
  draw : Nat
  deriving DecidableEq, Repr

structure Awning where
  st : AwningState
  op : AwningOp
  target : Target
  extend : Bool
  causes : Causes
  stowCause : Option StowCause
  pendingStow : Option StowCause
  known : Bool
  endPos : EndPosition
  cap : AwningCap
  waitLeft : Option Nat
  suspLeft : Option Nat
  runMs : Nat
  deriving DecidableEq, Repr

/-- The wind monitor (R90, R91); `sustained` none is undefined. -/
structure Wind where
  ring : List Int
  gust : Int
  sustained : Option Int
  lockout : Bool
  quiet : Nat
  lockTime : Nat
  deriving DecidableEq, Repr

/-! ## Supply arbiter -/

/-- The supply classes in precedence order (5.1). -/
inductive SupplyClass where
  | stow | levelling | room | awning
  deriving DecidableEq, Repr

/-- An entry of the grant table (R103). -/
structure Grant where
  holder : Group
  cls : SupplyClass
  draw : Nat
  deriving DecidableEq, Repr

/-- An entry of the waiting list (R104). -/
structure Waiting where
  holder : Group
  cls : SupplyClass
  draw : Nat
  before : Bool
  deriving DecidableEq, Repr

structure Arbiter where
  base : Nat
  level : Nat
  grants : List Grant
  waiting : List Waiting
  lowVoltage : Bool
  sagRun : Nat
  recRun : Nat
  entRun : Nat
  exitRun : Nat
  deriving DecidableEq, Repr

/-! ## Motion guard -/

structure EnvEntry where
  contents : EnvContents
  locked : Bool
  deriving DecidableEq, Repr

structure WatchUnit where
  contents : WatchContents
  hit : Bool
  deriving DecidableEq, Repr

/-- The claim is NONE when `jackWork` is false and `roomWork` is empty (R121). -/
structure Guard where
  jackWork : Bool
  roomWork : PerRoom Bool
  envelope : List EnvEntry
  watches : List WatchUnit
  freeze : PerGroup Bool
  deriving DecidableEq, Repr

/-! ## Channel monitor -/

/-- The direction of a driven channel, first or second as R140 lists them. -/
inductive ChanDir where
  | first | second
  deriving DecidableEq, Repr

/-- The mode of a channel (R140): OFF, DRIVEN in a direction at a duty, or TESTING, fed by the test source in a direction
with a current in mA (R149). -/
inductive ChanMode where
  | off
  | driven (d : ChanDir) (duty : Int)
  | testing (d : ChanDir) (mA : Nat)
  deriving DecidableEq, Repr

structure Channel where
  mode : ChanMode
  reading : Nat
  tripRun : Nat
  openRun : Nat
  stallRun : Nat
  peak : Nat
  deriving DecidableEq, Repr

/-- The result classes of the health table (R147). -/
inductive HealthClass where
  | untested | normal | open | short | testFailed
  deriving DecidableEq, Repr

structure Health where
  result : HealthClass
  lastTest : Option HealthClass
  resistance : Option Nat
  deriving DecidableEq, Repr

/-- One reading of a circuit test (R150): mA, mV and the battery in 10 mV. -/
structure TestReading where
  mA : Nat
  mV : Nat
  battery : Int
  deriving DecidableEq, Repr

structure CircuitTest where
  chan : ChannelId
  left : Nat
  readingA : Option TestReading
  deriving DecidableEq, Repr

/-! ## Stance and attention -/

structure Stance where
  jacksDown : Bool
  roomsOut : Nat
  awningOut : Bool
  anyMotion : Bool
  travelReady : Bool
  deriving DecidableEq, Repr

/-- The causes of SUPERVISION (R156). -/
structure SupCauses where
  reset : Bool
  wake : Bool
  wind : Bool
  watch : Bool
  freeze : Bool
  lowVoltage : Bool
  budgetDegraded : Bool
  storeDefaulted : Bool
  deriving DecidableEq, Repr

structure StanceAttention where
  stance : Stance
  stowedLine : Bool
  jacksLine : Bool
  groups : PerGroup Bool
  supervision : Bool
  causes : SupCauses
  records : PerGroup (Option StopRecord)
  deriving DecidableEq, Repr

/-! ## Link port -/

/-- The receiver (R164): hunting, after a start marker, or collecting a frame of the length taken. -/
inductive Receiver where
  | hunting
  | started
  | inside (length : Byte) (got : List Byte)
  deriving DecidableEq, Repr

/-- A request frame in the queue (R165). -/
structure RequestFrame where
  kind : Byte
  tag : Byte
  payload : List Byte
  deriving DecidableEq, Repr

/-- What follows when a reply has been sent whole (R168, R181, R185). -/
inductive AfterReply where
  | nothing | dormant | reset
  deriving DecidableEq, Repr

/-- A frame to send: a reply, or a notice (R170, R172). -/
structure SentFrame where
  kind : Byte
  tag : Byte
  payload : List Byte
  after : AfterReply
  deriving DecidableEq, Repr

structure Link where
  rx : Receiver
  queue : List RequestFrame
  slot : Option SentFrame
  tx : Option SentFrame
  notice : Bool
  framing : Nat
  check : Nat
  overflow : Nat
  ignitionSeen : Bool
  deriving DecidableEq, Repr

/-! ## Settings store -/

/-- The store write in flight (R175, R177, R178, R179). -/
inductive StoreJob where
  | item (group item : Nat) (v : Int)
  | tables (envelope : List EnvContents) (watches : List WatchContents)
  | tilt (pitch roll : Int)
  | lock (group : Nat)
  deriving DecidableEq, Repr

/-- The settings store (R174): the bits of `checkOk`, `defaulted` and `locks` are numbered by group code. -/
structure Store where
  active : Settings
  stored : Settings
  storedEnvelope : List EnvContents
  storedWatches : List WatchContents
  checkOk : BitVec 10
  defaulted : BitVec 10
  locks : BitVec 4
  job : Option (StoreJob × Nat)
  deriving DecidableEq, Repr

end Sys2Proof.Machine

namespace Sys2Proof.Machine

open Sys2Proof

/-- The whole state of the part, and the queue of commands that wait. -/
structure State where
  power : Power
  straps : Straps
  clock : Clock
  fe : FrontEnd
  inputs : Inputs
  jk : Levelling
  rooms : PerRoom Room
  aw : Awning
  wind : Wind
  arb : Arbiter
  guard : Guard
  ch : PerChannel Channel
  health : PerChannel Health
  test : Option CircuitTest
  sa : StanceAttention
  link : Link
  store : Store
  pending : List Instr
  deriving DecidableEq, Repr

/-- Nothing in the manual stops the part (INVENTORY.md, Faults), so no command raises a fault.
The one name stands for the host's type: no meaning answers it. Safe: it is never answered. -/
inductive Fault where
  | neverRaised
  deriving DecidableEq, Repr

/-- Why a command has no answer. Raised by no meaning: only by an arm of `exec` without a meaning, of which there is
none. Safe: it is never answered. -/
inductive Refusal where
  | notModelled (mnemonic : String)
  deriving DecidableEq, Repr

/-! ## The value right after power-on -/

/-- No operation has captured anything yet: the factory defaults stand here and nothing reads them (notes 10). -/
def JackCap.initial : JackCap :=
  { level := Config.factory.level, geometry := Config.factory.geometry, draw := 150, holdLapse := 300, resumeWindow := 10000 }

def RoomCap.initial : RoomCap :=
  { cal := { travel := 1600, endWindow := 24, stall := 32 }, run := Config.factory.roomRun, draw := 80 }

def AwningCap.initial : AwningCap :=
  { cal := Config.factory.awningCal, run := Config.factory.awningRun, draw := 18 }

def Causes.none : Causes := { supply := false, freeze := false, holdLapse := false }

def SupCauses.none : SupCauses :=
  { reset := false, wake := false, wind := false, watch := false, freeze := false, lowVoltage := false
    budgetDegraded := false, storeDefaulted := false }

/-- The engine with no operation, in the idle state given (R20). -/
def Levelling.initial (i : JackIdle) (dump : Bool) : Levelling :=
  { st := .idle i, causes := .none, lapsed := false, cap := .initial, passes := 0, tdStarted := false, tdDone := false
    steepDone := false, touch := .all none, plan := none, baseUsed := 0, clamped := .all false, light := .all false
    noGround := .all false, station := none, doneFront := false, doneMiddle := false, doneRear := false
    tiltWait := false, lightList := [], step := none, jog := none, holdLeft := none, resumeLeft := none, airLeft := none
    waitLeft := none, suspLeft := none, settleLeft := none, stepLeft := none, runMs := 0, driftLeft := none
    driftWait := false, result := none, dumpReq := dump }

/-- A room with no operation (R53). -/
def Room.initial (known : Bool) (endPos : EndPosition) : Room :=
  { st := .idle, home := false, target := .inn, causes := .none, lapsed := false, cap := .initial, foreStopped := false
    aftStopped := false, known := known, endPos := endPos, holdLeft := none, resumeLeft := none, pinLeft := none
    ctrlLeft := none, runMs := 0 }

/-- The awning with no operation (R82). -/
def Awning.initial (known : Bool) (endPos : EndPosition) : Awning :=
  { st := .idle, op := .move, target := .inn, extend := false, causes := .none, stowCause := none, pendingStow := none
    known := known, endPos := endPos, cap := .initial, waitLeft := none, suspLeft := none, runMs := 0 }

def Wind.initial : Wind :=
  { ring := [], gust := 0, sustained := none, lockout := false, quiet := 0, lockTime := 0 }

/-- The arbiter at level 0 with nothing granted (R115). -/
def Arbiter.initial (base : Nat) : Arbiter :=
  { base := base, level := 0, grants := [], waiting := [], lowVoltage := false, sagRun := 0, recRun := 0, entRun := 0
    exitRun := 0 }

/-- The guard with the tables given, unlocked and without hits (R122, R128, R135, R138). -/
def Guard.initial (envelope : List EnvContents) (watches : List WatchContents) : Guard :=
  { jackWork := false, roomWork := .all false, envelope := envelope.map fun c => { contents := c, locked := false }
    watches := watches.map fun c => { contents := c, hit := false }, freeze := .all false }

def Channel.initial : Channel :=
  { mode := .off, reading := 0, tripRun := 0, openRun := 0, stallRun := 0, peak := 0 }

/-- R148. -/
def Health.initial : Health := { result := .untested, lastTest := none, resistance := none }

/-- The link port after a reset, the notice not yet begun (R171). -/
def Link.initial : Link :=
  { rx := .hunting, queue := [], slot := none, tx := none, notice := false, framing := 0, check := 0, overflow := 0
    ignitionSeen := false }

def Clock.initial : Clock := { sample := 20, input := 10, reading := 5, wind := 250 }

/-- A store as it left the factory, nothing locked (notes 7). -/
def Store.factory : Store :=
  { active := Config.factory, stored := Config.factory, storedEnvelope := Config.factoryEnvelope
    storedWatches := Config.factoryWatches, checkOk := 0x3FF, defaulted := 0, locks := 0, job := none }

/-- The straps of the coach that `State.reset` stands for (notes 7). -/
def Straps.full : Straps := { sixJacks := true, rooms := 4, awning := true, supply24 := false, airsusp := true }

/-- An input line whose first raw sample read `b` (R17). -/
def InputLine.first (b : Bool) : InputLine := { level := b, latch := b, run := 0 }

/-- The machine right after power-on (R184) of a parked coach with everything in (notes 7): the sequence has run to
its end and the RESET notice is being sent. Tests/Slice0.lean shows that POWER_ON gives this very state. -/
def State.reset : State where
  power := .awake
  straps := .full
  clock := .initial
  fe :=
    { ring := [(0, 0)], pitch := 0, roll := 0
      jacks := .all { stroke := some 0, pressure := some 0, fault := false, validRun := 0, latest := (0, 0) }
      rooms := .all
        { fore := { live := 0, handed := 0 }, aft := { live := 0, handed := 0 }
          foreIn := { made := true, run := 0 }, aftIn := { made := true, run := 0 }
          withdrawn := { made := false, run := 0 }, engaged := { made := true, run := 0 } }
      awningCount := { live := 0, handed := 0 }
      stowed := { made := true, run := 0 }
      battery := 1260, missing := 0, pulses := 0 }
  inputs :=
    { parkSet := .first true, ignition := .first false, engine := .first false, charging := .first false
      airDumped := .first false, keyOff := .first true }
  jk := .initial .retracted false
  rooms := .all (.initial true .inn)
  aw := .initial true .inn
  wind := .initial
  arb := .initial 160
  guard := .initial Config.factoryEnvelope Config.factoryWatches
  ch := .all .initial
  health := .all .initial
  test := none
  sa :=
    { stance := { jacksDown := false, roomsOut := 0, awningOut := false, anyMotion := false, travelReady := true }
      stowedLine := true, jacksLine := false, groups := .all false, supervision := true
      causes := { SupCauses.none with reset := true }, records := .all none }
  link :=
    { Link.initial with tx := some { kind := 0x7F, tag := 0, payload := [0x40, 0x01], after := .nothing } }
  store := .factory
  pending := []

end Sys2Proof.Machine
end

