-- ==== Sys2Proof/Machine/Ops.lean ====
section
/-!
DEFINITION. The operations every block shares: arithmetic with the roundings the chapters state, bytes of the link,
presence by the straps (R1), drive channels and the pump that follows the valves (R140 to R142), and the passage of
time (0.5 Time).
-/

namespace Sys2Proof.Machine

open Sys2Proof

/-! ## Arithmetic -/

/-- `v` replaced by the nearest end of lo..hi (0.5 Arithmetic, "clamped"). -/
def clampInt (lo hi v : Int) : Int := max lo (min hi v)

/-- `a / b` rounded to the nearest integer, halves away from zero (R5, R29). -/
def divRound (a : Int) (b : Nat) : Int :=
  let q : Int := ((2 * a.natAbs + b) / (2 * b) : Nat)
  if a < 0 then -q else q

def absInt (a : Int) : Int := (a.natAbs : Int)

/-- A bit of a byte the panel reads. -/
def bitOf (b : Bool) (n : Nat) : Nat := if b then 2 ^ n else 0

def byteOf (n : Nat) : Byte := BitVec.ofNat 8 n

/-- A two-byte field, most significant byte first, two's complement (9.1). -/
def bytes2 (v : Int) : List Byte :=
  let w : Half := BitVec.ofInt 16 v
  [byteOf (w.toNat / 256), byteOf (w.toNat % 256)]

/-- A four-byte field, most significant byte first. -/
def bytes4 (n : Nat) : List Byte :=
  [byteOf (n / 16777216), byteOf (n / 65536 % 256), byteOf (n / 256 % 256), byteOf (n % 256)]

/-- A two-byte field that may be absent: 0xFFFF then (9.4). -/
def bytes2? (v : Option Int) : List Byte :=
  match v with
  | some x => bytes2 x
  | none => [0xFF, 0xFF]

/-- A one-byte field that may be absent: 0xFF then (9.4). -/
def byte? (v : Option Nat) : Byte :=
  match v with
  | some x => byteOf x
  | none => 0xFF

/-! ## Presence (R1, R2) -/

def Straps.hasJack (t : Straps) : JackId → Bool
  | .lm => t.sixJacks
  | .rm => t.sixJacks
  | _ => true

def Straps.hasRoom (t : Straps) (r : RoomId) : Bool := decide (r.num < t.rooms)

def Straps.hasGroup (t : Straps) : Group → Bool
  | .jacks => true
  | .room r => t.hasRoom r
  | .awning => t.awning

def Straps.hasChannel (t : Straps) : ChannelId → Bool
  | .pump => true
  | .valve j => t.hasJack j
  | .drive r _ => t.hasRoom r
  | .pin r => t.hasRoom r
  | .awning => t.awning

end Sys2Proof.Machine

namespace Sys2Proof

/-- The group that owns a channel (R140). -/
def ChannelId.owner : ChannelId → Group
  | .pump => .jacks
  | .valve _ => .jacks
  | .drive r _ => .room r
  | .pin r => .room r
  | .awning => .awning

/-- The strap values from the seven pins: a ROOMS pattern of 5, 6 or 7 is taken as 4 (R1). -/
def StrapPins.straps (p : StrapPins) : Machine.Straps :=
  { sixJacks := p.sixJacks, rooms := min 4 p.roomPins.toNat, awning := p.awning, supply24 := p.supply24
    airsusp := p.airsusp }

end Sys2Proof

namespace Sys2Proof.Machine

open Sys2Proof

def State.presentJacks (s : State) : List JackId := JackId.all.filter s.straps.hasJack
def State.presentRooms (s : State) : List RoomId := RoomId.all.filter s.straps.hasRoom
def State.presentGroups (s : State) : List Group := Group.all.filter s.straps.hasGroup

/-- A supply threshold, doubled with the SUPPLY strap at 24 V (0.5 Units, R1). -/
def State.volts (s : State) (v : Int) : Int := if s.straps.supply24 then 2 * v else v

/-! ## Parts of the state -/

def State.room (s : State) (r : RoomId) : Room := s.rooms.get r
def State.setRoom (s : State) (r : RoomId) (x : Room) : State := { s with rooms := s.rooms.set r x }
def State.chan (s : State) (c : ChannelId) : Channel := s.ch.get c
def State.setChan (s : State) (c : ChannelId) (x : Channel) : State := { s with ch := s.ch.set c x }
def State.sense (s : State) (r : RoomId) : RoomSense := s.fe.rooms.get r
def State.setSense (s : State) (r : RoomId) (x : RoomSense) : State :=
  { s with fe := { s.fe with rooms := s.fe.rooms.set r x } }
def State.jackSense (s : State) (j : JackId) : JackSense := s.fe.jacks.get j

def RoomSense.count (x : RoomSense) : Drive → Count
  | .fore => x.fore
  | .aft => x.aft

def RoomSense.setCount (x : RoomSense) (d : Drive) (c : Count) : RoomSense :=
  match d with
  | .fore => { x with fore := c }
  | .aft => { x with aft := c }

def RoomSense.inStop (x : RoomSense) : Drive → Contact
  | .fore => x.foreIn
  | .aft => x.aftIn

def RoomSense.setInStop (x : RoomSense) (d : Drive) (c : Contact) : RoomSense :=
  match d with
  | .fore => { x with foreIn := c }
  | .aft => { x with aftIn := c }

/-- The debounced state (R10): it changes at the second sample that reads the new level, in the set that takes it. The
change is told to the controllers at its place in that set or by its own row (notes 3). -/
def Contact.reads (c : Contact) : Bool := if c.run < 2 then c.made else !c.made

/-- The contact reads MADE, and its controllers know it. -/
def Contact.standsMade (c : Contact) : Bool := c.made && c.reads

/-- The pin state the two debounced contacts give (R10). -/
def pinOf (withdrawn engaged : Bool) : PinState :=
  match withdrawn, engaged with
  | true, false => .withdrawn
  | false, true => .engaged
  | false, false => .between
  | true, true => .invalid

def RoomSense.pin (x : RoomSense) : PinState := pinOf x.withdrawn.reads x.engaged.reads

/-- The pin state that the room controller was last told of (R10). -/
def RoomSense.pinTold (x : RoomSense) : PinState := pinOf x.withdrawn.made x.engaged.made

/-- The pin reads `p`, and its controller knows it. -/
def RoomSense.pinStands (x : RoomSense) (p : PinState) : Bool := decide (x.pin = p) && decide (x.pinTold = p)

def RoomSense.bothIn (x : RoomSense) : Bool := x.foreIn.reads && x.aftIn.reads

/-- A count set to zero by the front end: the zero is also the value handed on (R11). -/
def Count.zero : Count := { live := 0, handed := 0 }

/-! ## Drive channels (R140 to R143) -/

def Channel.isDriven (c : Channel) : Bool :=
  match c.mode with
  | .driven _ _ => true
  | _ => false

def Channel.drivenDir (c : Channel) : Option ChanDir :=
  match c.mode with
  | .driven d _ => some d
  | _ => none

def Channel.duty (c : Channel) : Int :=
  match c.mode with
  | .driven _ p => p
  | _ => 0

/-- OFF: no current, every measurement at its start; the highest reading of the operation stays (R141, R143). -/
def Channel.turnedOff (c : Channel) : Channel :=
  { c with mode := .off, reading := 0, tripRun := 0, openRun := 0, stallRun := 0 }

/-- A drive command: the same direction changes the duty only, another one restarts the measurements (R141). -/
def Channel.commanded (c : Channel) (d : ChanDir) (duty : Int) : Channel :=
  if c.drivenDir = some d then { c with mode := .driven d duty }
  else { c with mode := .driven d duty, tripRun := 0, openRun := 0, stallRun := 0 }

def State.driven (s : State) (c : ChannelId) : Bool := (s.chan c).isDriven

def State.off (s : State) (c : ChannelId) : State := s.setChan c (s.chan c).turnedOff

def State.drive (s : State) (c : ChannelId) (d : ChanDir) (duty : Int) : State :=
  s.setChan c ((s.chan c).commanded d duty)

/-- The highest reading of every channel of a group restarts with the group's operation (R143). -/
def State.clearPeaks (s : State) (g : Group) : State :=
  { s with ch := .tab fun c => if c.owner = g then { s.chan c with peak := 0 } else s.chan c }

def State.anyValve (s : State) : Bool := JackId.all.any fun j => s.driven (.valve j)

/-- The pump runs while any valve channel is DRIVEN (R142). -/
def State.pumpFollow (s : State) : State :=
  if s.anyValve then (if s.driven .pump then s else s.drive .pump .first 100) else s.off .pump

/-- A valve driven at 100 %, the pump with it: first direction EXTEND, second RETRACT (R140 to R142). -/
def State.openValve (s : State) (j : JackId) (d : ChanDir) : State := (s.drive (.valve j) d 100).pumpFollow

def State.closeValve (s : State) (j : JackId) : State := (s.off (.valve j)).pumpFollow

/-- Every valve OFF, and so the pump (R142). -/
def State.closeValves (s : State) : State :=
  (JackId.all.foldl (fun t j => t.off (.valve j)) s).pumpFollow

/-- Every channel of a room OFF. -/
def State.roomOff (s : State) (r : RoomId) : State :=
  ((s.off (.drive r .fore)).off (.drive r .aft)).off (.pin r)

def State.anyDrive (s : State) (r : RoomId) : Bool := s.driven (.drive r .fore) || s.driven (.drive r .aft)

/-- A channel is unusable while OPEN or SHORT (R147). -/
def State.usable (s : State) (c : ChannelId) : Bool :=
  match (s.health.get c).result with
  | .open => false
  | .short => false
  | _ => true

/-! ## Trip, open and test classes (R140, R144, R145, R149, R151) -/

end Sys2Proof.Machine

namespace Sys2Proof

/-- Trip current, mA (R144). -/
def ChannelId.tripCurrent : ChannelId → Nat
  | .pump => 250000
  | .valve _ => 6000
  | .drive _ _ => 60000
  | .pin _ => 8000
  | .awning => 25000

/-- Open threshold, mA (R145). -/
def ChannelId.openThreshold : ChannelId → Nat
  | .valve _ => 50
  | .pin _ => 50
  | _ => 200

/-- Test current, mA (R149). -/
def ChannelId.testCurrent : ChannelId → Nat
  | .pin _ => 250
  | _ => 1000

/-- Floor of the test class, mΩ (R151). -/
def ChannelId.testFloor : ChannelId → Nat
  | .valve _ => 2000
  | .pin _ => 1000
  | _ => 20

/-- Ceiling of the test class, mΩ (R151). -/
def ChannelId.testCeiling : ChannelId → Nat
  | .valve _ => 20000
  | .pin _ => 30000
  | _ => 2000

end Sys2Proof

namespace Sys2Proof.Machine

open Sys2Proof

/-- Samples that span `ms` at one sample every `period`: the first at its start, the last at its completion (notes 4). -/
def spanSamples (ms period : Nat) : Nat := ms / period + 1

/-- A reading at or above the trip current for 20 ms (R144). -/
def tripSamples : Nat := spanSamples 20 5
/-- A reading below the open threshold for 300 ms (R145). -/
def openSamples : Nat := spanSamples 300 5
/-- A stall: 150 ms (R61, R86). -/
def stallSamples : Nat := spanSamples 150 5

/-! ## Time (0.5): every timer and run time moves together -/

/-- A timer with `d` ms gone; a stopped timer stays stopped. -/
def countDown (d : Nat) (t : Option Nat) : Option Nat := t.map (· - d)

/-- A timer that FREEZE stops (R37, R88). -/
def countDownUnless (stopped : Bool) (d : Nat) (t : Option Nat) : Option Nat := if stopped then t else countDown d t

/-- The run limit of a JACKS operation: 240 s or 90 s (R39). -/
def JackWork.limit : JackWork → Nat
  | .levelling _ => 240000
  | _ => 90000

/-- 30 s, the jog's run-time budget (R48). -/
def jogBudget : Nat := 30000

/-- 30 s, the awning's run time (R86). -/
def awningBudget : Nat := 30000

/-- The captured time budget of a room, ms (R62). -/
def Room.budget (r : Room) : Nat := r.cap.run.timeBudget.toNat * 1000

/-- The jog's run time counts while its valve is driven (R48). -/
def State.jogAfter (s : State) (d : Nat) : Option Jog :=
  s.jk.jog.map fun g =>
    if s.jk.st = .work .jogging && s.driven (.valve g.jack) then { g with runMs := max g.runMs (min (g.runMs + d) jogBudget) }
    else g

/-- The run timer counts in every state of LEVEL AUTO and LEVEL STOW but SUSPENDED (R39). -/
def Levelling.runAfter (j : Levelling) (d : Nat) : Nat :=
  match j.st with
  | .work .jogging => j.runMs
  | .work w => max j.runMs (min (j.runMs + d) w.limit)
  | _ => j.runMs

def State.jkAfter (s : State) (d : Nat) : Levelling :=
  let j := s.jk
  let z := j.causes.freeze
  { j with
    holdLeft := countDown d j.holdLeft
    resumeLeft := countDown d j.resumeLeft
    airLeft := countDownUnless z d j.airLeft
    waitLeft := countDownUnless z d j.waitLeft
    suspLeft := countDownUnless z d j.suspLeft
    settleLeft := countDown d j.settleLeft
    stepLeft := countDown d j.stepLeft
    driftLeft := countDown d j.driftLeft
    runMs := j.runAfter d
    jog := s.jogAfter d }

/-- The run time of a room counts while MOVING with a drive driven (R62). -/
def State.roomAfter (s : State) (d : Nat) (r : RoomId) : Room :=
  let x := s.room r
  { x with
    holdLeft := countDown d x.holdLeft
    resumeLeft := countDown d x.resumeLeft
    pinLeft := countDown d x.pinLeft
    ctrlLeft := countDown d x.ctrlLeft
    runMs := if x.st = .work .moving && s.anyDrive r then max x.runMs (min (x.runMs + d) x.budget) else x.runMs }

/-- The run time of the awning counts while channel 19 is driven (R86). -/
def State.awAfter (s : State) (d : Nat) : Awning :=
  let a := s.aw
  let z := a.causes.freeze
  { a with
    waitLeft := countDownUnless z d a.waitLeft
    suspLeft := countDownUnless z d a.suspLeft
    runMs := if s.driven .awning then max a.runMs (min (a.runMs + d) awningBudget) else a.runMs }

def Clock.after (c : Clock) (d : Nat) : Clock :=
  { sample := c.sample - d, input := c.input - d, reading := c.reading - d, wind := c.wind - d }

/-- `d` ms pass: every running timer counts down to 0 and waits there for its own command, and every run time that
counts grows, up to the limit at which its operation ends (notes 2). -/
def State.pass (s : State) (d : Nat) : State :=
  { s with
    clock := s.clock.after d
    jk := s.jkAfter d
    rooms := .tab (s.roomAfter d)
    aw := s.awAfter d
    test := s.test.map fun t => { t with left := t.left - d }
    store := { s.store with job := s.store.job.map fun p => (p.1, p.2 - d) } }

end Sys2Proof.Machine
end

