-- ==== Sys2Proof/Machine/Operands.lean ====
section
/-!
DEFINITION. What the blocks read: strokes, tilt, counts, the sources of envelope entries and watch units and when a
source gives a new sample (R3, R123, R129), and the group masks of the link (9.4).
-/

namespace Sys2Proof.Machine

open Sys2Proof

/-! ## Jacks -/

def State.stroke (s : State) (j : JackId) : Option Int := (s.jackSense j).stroke

/-- A stroke for computing with; only jacks with a known stroke reach a computation (R8, R23). -/
def State.strokeD (s : State) (j : JackId) : Int := (s.stroke j).getD 0

def State.pressureD (s : State) (j : JackId) : Int := ((s.jackSense j).pressure).getD 0

/-- Retracted is at most 5 mm; an unknown stroke counts as above (R7, R8). -/
def State.retracted (s : State) (j : JackId) : Bool :=
  match s.stroke j with
  | some x => decide (x ≤ 5)
  | none => false

def State.allRetracted (s : State) : Bool := s.presentJacks.all s.retracted

def State.anyJackFault (s : State) : Bool := s.presentJacks.any fun j => (s.jackSense j).fault

/-- The filter is full while the ring holds 16 samples (R5). -/
def State.filterFull (s : State) : Bool := decide (s.fe.ring.length = 16)

/-- Both filtered values at or within `band` of 0. -/
def State.tiltWithin (s : State) (band : Int) : Bool := decide (absInt s.fe.pitch ≤ band) && decide (absInt s.fe.roll ≤ band)

/-! ## Windows and sources -/

/-- INSIDE: at or between low and high; OUTSIDE: below low or above high (R123, R129). -/
def inWindow (low high : Half) (outside : Bool) (v : Int) : Bool :=
  if outside then decide (v < low.toInt) || decide (high.toInt < v) else decide (low.toInt ≤ v) && decide (v ≤ high.toInt)

end Sys2Proof.Machine

namespace Sys2Proof

/-- Nothing that the source names is absent (R2, R123); AWNING_OUT names the awning (DESIGN CHOICE, notes 31). -/
def EnvSource.isPresent (t : Machine.Straps) : EnvSource → Bool
  | .stroke j => t.hasJack j
  | .foreCount r => t.hasRoom r
  | .awningCount => t.awning
  | .jacksDown => true
  | .awningOut => t.awning

def WatchSource.isPresent (t : Machine.Straps) : WatchSource → Bool
  | .stroke j => t.hasJack j
  | .pressure j => t.hasJack j
  | .foreCount r => t.hasRoom r
  | .aftCount r => t.hasRoom r
  | .awningCount => t.awning
  | .current c => t.hasChannel c
  | .pitch => true
  | .roll => true
  | .gust => t.awning
  | .sustained => t.awning
  | .battery => true

def EnvSource.isPosition : EnvSource → Bool
  | .jacksDown => false
  | .awningOut => false
  | _ => true

/-- The group on whose axis a position source lies (R126 check 4). -/
def EnvSource.axisOf : EnvSource → Option Group
  | .stroke _ => some .jacks
  | .foreCount r => some (.room r)
  | .awningCount => some .awning
  | _ => none

end Sys2Proof

namespace Sys2Proof.Machine

open Sys2Proof

/-- The condition of an entry (R123): an unknown stroke makes it hold, a stance flag is read from the stance record. -/
def State.condHolds (s : State) (c : EnvContents) : Bool :=
  match c.source with
  | .stroke j =>
    match s.stroke j with
    | some v => inWindow c.low c.high c.outside v
    | none => true
  | .foreCount r => inWindow c.low c.high c.outside (s.sense r).fore.handed
  | .awningCount => inWindow c.low c.high c.outside s.fe.awningCount.handed
  | .jacksDown => s.sa.stance.jacksDown != c.outside
  | .awningOut => s.sa.stance.awningOut != c.outside

/-- The value of a watch source; sustained wind may be undefined (R129). -/
def State.watchValue (s : State) : WatchSource → Option Int
  | .stroke j => s.stroke j
  | .pressure j => (s.jackSense j).pressure
  | .foreCount r => some (s.sense r).fore.handed
  | .aftCount r => some (s.sense r).aft.handed
  | .awningCount => some s.fe.awningCount.handed
  | .current c => some ((s.chan c).reading / 100 : Nat)
  | .pitch => some s.fe.pitch
  | .roll => some s.fe.roll
  | .gust => some s.wind.gust
  | .sustained => s.wind.sustained
  | .battery => some s.fe.battery

/-- Which sources give a new sample in the event at hand (R3, R129). -/
structure Fresh where
  set : Bool
  tilt : Bool
  jacks : PerJack Bool
  wind : Bool
  deriving DecidableEq, Repr

def Fresh.env (f : Fresh) : EnvSource → Bool
  | .stroke j => f.jacks.get j
  | _ => f.set

def Fresh.watch (f : Fresh) : WatchSource → Bool
  | .stroke j => f.jacks.get j
  | .pressure j => f.jacks.get j
  | .pitch => f.tilt
  | .roll => f.tilt
  | .gust => f.wind
  | .sustained => f.wind
  | _ => f.set

/-! ## Group masks (9.4) -/

def groupBit : Group → Nat
  | .jacks => 0
  | .room r => r.num + 1
  | .awning => 5

def inMask (mask : Byte) (g : Group) : Bool := mask.getLsbD (groupBit g)

/-- The mask byte of a set of groups. -/
def maskOf (p : PerGroup Bool) : Nat := (Group.all.map fun g => bitOf (p.get g) (groupBit g)).sum

def causesByte (c : Causes) (lapsed : Bool) : Byte :=
  byteOf (bitOf c.supply 0 + bitOf c.freeze 1 + bitOf c.holdLapse 2 + bitOf lapsed 3)

def Causes.isEmpty (c : Causes) : Bool := !c.supply && !c.freeze && !c.holdLapse

/-! ## The states of the groups -/

def JackState.work? : JackState → Option JackWork
  | .work w => some w
  | .suspended w => some w
  | _ => none

def JackState.isLevelAuto (j : JackState) : Bool :=
  match j.work? with
  | some (.levelling _) => true
  | _ => false

def JackState.isJog (j : JackState) : Bool :=
  match j.work? with
  | some .jogging => true
  | _ => false

def JackState.isIdle : JackState → Bool
  | .idle _ => true
  | _ => false

def RoomState.work? : RoomState → Option RoomWork
  | .work w => some w
  | .suspended w => some w
  | _ => none

def AwningState.work? : AwningState → Option AwningWork
  | .work w => some w
  | .suspended w => some w
  | _ => none

/-- A stow is running or suspended (R80, R92). -/
def Awning.stowing (a : Awning) : Bool :=
  match a.st.work? with
  | some .stowing => true
  | _ => false

/-- A MOVE or HOME of the awning is in progress. -/
def Awning.moving (a : Awning) : Bool :=
  match a.st.work? with
  | some .stowing => false
  | some _ => true
  | none => false

/-- The group is in one of its idle states (R154). -/
def State.groupIdle (s : State) : Group → Bool
  | .jacks => s.jk.st.isIdle
  | .room r => decide ((s.room r).st = .idle)
  | .awning => decide (s.aw.st = .idle)

/-- The park-brake input reads released (R15, R118). -/
def State.brakeReleased (s : State) : Bool := !s.inputs.parkSet.level

/-- The awning is stowed while its debounced switch is MADE (R81). -/
def State.stowed (s : State) : Bool := s.fe.stowed.reads

end Sys2Proof.Machine
end

