-- ==== Sys2Proof/Machine/Flags.lean ====
section
/-!
DEFINITION. Stance, attention and stop records (chapter 8), and the DUMP_REQ line (R22): the flags and lines the part
shows.
-/

namespace Sys2Proof.Machine

open Sys2Proof

/-! ## The stance record (R154, R155) -/

/-- A room is in and locked (R154). -/
def State.roomLocked (s : State) (r : RoomId) : Bool :=
  decide ((s.room r).endPos = .inn) && (s.room r).known && decide ((s.sense r).pin = .engaged)

def State.computedStance (s : State) : Stance :=
  let out := (s.presentRooms.filter fun r => !s.roomLocked r).length
  let awOut := s.straps.awning && !s.stowed
  let motion := s.presentGroups.any fun g => !s.groupIdle g
  { jacksDown := !s.allRetracted
    roomsOut := out
    awningOut := awOut
    anyMotion := motion
    travelReady := decide (s.jk.st = .idle .retracted) && decide (out = 0) && !awOut && !motion && !s.jk.dumpReq }

/-- The record is computed again and the dash lines follow it (R155). -/
def State.restance (s : State) : State :=
  let t := s.computedStance
  { s with sa := { s.sa with stance := t, stowedLine := t.travelReady, jacksLine := t.jacksDown } }

/-! ## The attention set (R156, R157, R159) -/

/-- A group joins; a group not yet in the set owes a notice (R156). -/
def State.joinGroup (s : State) (g : Group) : State :=
  if s.sa.groups.get g || !s.straps.hasGroup g then s
  else { s with sa := { s.sa with groups := s.sa.groups.set g true }, link := { s.link with notice := true } }

/-- SUPERVISION joins with the cause that `add` adds (R157). -/
def State.joinSupervision (s : State) (add : SupCauses → SupCauses) : State :=
  if s.sa.supervision then { s with sa := { s.sa with causes := add s.sa.causes } }
  else
    { s with
      sa := { s.sa with supervision := true, causes := add .none }
      link := { s.link with notice := true } }

def SupCauses.addWake (c : SupCauses) : SupCauses := { c with wake := true }
def SupCauses.addWind (c : SupCauses) : SupCauses := { c with wind := true }
def SupCauses.addWatch (c : SupCauses) : SupCauses := { c with watch := true }
def SupCauses.addFreeze (c : SupCauses) : SupCauses := { c with watch := true, freeze := true }
def SupCauses.addLowVoltage (c : SupCauses) : SupCauses := { c with lowVoltage := true }
def SupCauses.addBudget (c : SupCauses) : SupCauses := { c with budgetDegraded := true }

/-- The cause byte of SUPERVISION (9.4); 0 when SUPERVISION is not in the set (R172). -/
def State.supByte (s : State) : Byte :=
  let c := s.sa.causes
  if s.sa.supervision then
    byteOf (bitOf c.reset 0 + bitOf c.wake 1 + bitOf c.wind 2 + bitOf c.watch 3 + bitOf c.freeze 4 + bitOf c.lowVoltage 5
      + bitOf c.budgetDegraded 6 + bitOf c.storeDefaulted 7)
  else 0

/-- The attention mask, bit 6 for SUPERVISION (9.4). -/
def State.attentionByte (s : State) : Byte := byteOf (maskOf s.sa.groups + bitOf s.sa.supervision 6)

/-! ## Stop records (R161, R162) -/

/-- An end handed on: the record is written, the stance computed, and the group joins, in this order (R162). -/
def State.recordEnd (s : State) (g : Group) (e : StopRecord) : State :=
  let s1 := { s with sa := { s.sa with records := s.sa.records.set g (some e) } }
  s1.restance.joinGroup g

/-! ## DUMP_REQ (R22) -/

/-- Asserting DUMP_REQ; with AIRSUSP absent the line is held released. -/
def State.assertDump (s : State) : State := { s with jk := { s.jk with dumpReq := s.straps.airsusp } }

end Sys2Proof.Machine
end

