-- ==== Sys2Proof/Machine/SupplyList.lean ====
section
/-!
DEFINITION. The arbiter's collections (5.3 to 5.5): the budget, the grant table and the waiting list as lists, the
place of an entry, the choice of a victim, and the work-mode claim of the guard (6.2).
-/

namespace Sys2Proof.Machine

open Sys2Proof

/-- The current budget (R98): base × (100 − 25 × level) / 100 rounded down, or 40 if that is less. -/
def budgetOf (base level : Nat) : Nat := max 40 (base * (100 - 25 * level) / 100)

def State.budget (s : State) : Nat := budgetOf s.arb.base s.arb.level

def sumDraws (l : List Grant) : Nat := (l.map (·.draw)).sum

def State.grantSum (s : State) : Nat := sumDraws s.arb.grants

def State.holds (s : State) (g : Group) : Bool := s.arb.grants.any fun e => decide (e.holder = g)

def State.waits (s : State) (g : Group) : Bool := s.arb.waiting.any fun e => decide (e.holder = g)

/-- Entries in both collections together. -/
def State.entryCount (s : State) : Nat := s.arb.grants.length + s.arb.waiting.length

/-- The order of the classes (5.1): a lower number stands ahead. -/
def SupplyClass.prec : SupplyClass → Nat
  | .stow => 0
  | .levelling => 1
  | .room => 2
  | .awning => 3

/-- Class first, and within a class the entries with the suspended-before mark (R104). -/
def Waiting.rank (e : Waiting) : Nat := 2 * e.cls.prec + (if e.before then 0 else 1)

/-- An entry goes behind every entry that stands ahead of it or level with it (R104, R105). -/
def placeWaiting (e : Waiting) : List Waiting → List Waiting
  | [] => [e]
  | x :: xs => if x.rank ≤ e.rank then x :: placeWaiting e xs else e :: x :: xs

/-- An emptied grant table sets the sag measurement back to its start (R99), also where the same event fills it again
(DESIGN CHOICE, notes 35). -/
def Arbiter.sagIfEmpty (a : Arbiter) : Arbiter := if a.grants.isEmpty then { a with sagRun := 0 } else a

/-- The entry of a holder leaves both collections (R112, R113); the walk that follows is the caller's. -/
def State.dropSupply (s : State) (g : Group) : State :=
  if s.holds g || s.waits g then
    let a := { s.arb with
      grants := s.arb.grants.filter fun e => decide (e.holder ≠ g)
      waiting := s.arb.waiting.filter fun e => decide (e.holder ≠ g) }
    { s with arb := a.sagIfEmpty }
  else s

/-- The victim among the grants (R109): the class with the highest number, and in it the latest granted; never a STOW. -/
def victimOf : List Grant → Option Grant
  | [] => none
  | e :: es =>
    match victimOf es with
    | some v => if v.cls.prec < e.cls.prec then some e else some v
    | none => if e.cls = .stow then none else some e

/-! ## The work-mode claim (R121, R122) -/

def Guard.anyRoomWork (g : Guard) : Bool := RoomId.all.any g.roomWork.get

def State.claimJacks (s : State) : State := { s with guard := { s.guard with jackWork := true } }
def State.claimRoom (s : State) (r : RoomId) : State :=
  { s with guard := { s.guard with roomWork := s.guard.roomWork.set r true } }

/-- A holder gives up its part of the claim (R122). -/
def State.giveUp (s : State) : Group → State
  | .jacks => { s with guard := { s.guard with jackWork := false } }
  | .room r => { s with guard := { s.guard with roomWork := s.guard.roomWork.set r false } }
  | .awning => s

end Sys2Proof.Machine
end

