-- ==== Sys2Proof/Machine/JackCore.lean ====
section
/-!
DEFINITION. The levelling engine (chapter 2): the end of an operation, the lift plan, the phases of a run, the stow, the
jog, suspension and return. An end here takes the group's entry out of the arbiter's collections; the walk that follows
(R112, R113) is made by the event (Supply.lean).
-/

namespace Sys2Proof.Machine

open Sys2Proof

/-! ## Capture and end -/

/-- The settings a JACKS operation captures (2.1). -/
def State.jackCapture (s : State) : JackCap :=
  { level := s.store.active.level, geometry := s.store.active.geometry, draw := s.store.active.supply.pump.toNat
    holdLapse := s.store.active.roomRun.holdLapse.toNat, resumeWindow := s.store.active.roomRun.resumeWindow.toNat * 1000 }

/-- RETRACTED or DOWN by the strokes as they stand (R20, R21, R38). -/
def State.derivedIdle (s : State) : JackIdle := if s.allRetracted then .retracted else .down

/-- The levelling result record of the run that ends (R41). -/
def State.levelResult (s : State) (o : LevelOutcome) (abort : Option Reason) : LevelResult :=
  let ran := decide (s.jk.passes ≠ 0)
  { outcome := o
    abort := abort
    passes := s.jk.passes
    pitch := s.fe.pitch
    roll := s.fe.roll
    baseLift := s.jk.baseUsed
    touch := .tab fun j => if s.straps.hasJack j then s.jk.touch.get j else none
    target := .tab fun j => if s.straps.hasJack j && ran then s.jk.plan.map fun p => p.target.get j else none
    stroke := .tab fun j => if s.straps.hasJack j then s.stroke j else none
    pressure := .tab fun j => if s.straps.hasJack j then (s.jackSense j).pressure else none
    clamped := s.jk.clamped
    light := s.jk.light
    noGround := s.jk.noGround }

/-- The outcome a reason gives a LEVEL AUTO run (R38, R41, R42). -/
def levelOutcome : Reason → LevelOutcome
  | .arrived => .levelled
  | .limited => .limited
  | _ => .aborted

def abortReason (r : Reason) : Option Reason :=
  match levelOutcome r with
  | .aborted => some r
  | _ => none

/-- The engine with its operation over: every timer of the operation stopped; entering RETRACTED releases DUMP_REQ (R22). -/
def Levelling.ended (j : Levelling) (i : JackIdle) (res : Option LevelResult) : Levelling :=
  { j with
    st := .idle i, causes := .none, lapsed := false, station := none, tiltWait := false, lightList := [], step := none
    jog := none, holdLeft := none, resumeLeft := none, airLeft := none, waitLeft := none, suspLeft := none
    settleLeft := none, stepLeft := none, result := res
    dumpReq := if i = .retracted then false else j.dumpReq }

/-- The idle state an end leaves (R38, R41, R42, R46, R48). -/
def State.idleAfter (s : State) (w : JackWork) (reason : Reason) : JackIdle :=
  match w with
  | .levelling _ =>
    match levelOutcome reason with
    | .levelled => .levelled
    | .limited => .down
    | .aborted => s.derivedIdle
  | _ => s.derivedIdle

def JackWork.operation : JackWork → Operation
  | .levelling _ => .levelAuto
  | .stowing => .levelStow
  | .jogging => .jog

/-- The run time a stop record takes (R161). -/
def State.jackRunMs (s : State) (w : JackWork) : Nat :=
  match w with
  | .jogging => (s.jk.jog.map (·.runMs)).getD 0
  | _ => s.jk.runMs

def State.strokeRecord (s : State) : Positions :=
  .strokes (.tab fun j => if s.straps.hasJack j then s.stroke j else none)

/-- The end of a JACKS operation, for any reason, as one event (R38, R41, R42, R46, R48): valves closed, timers stopped,
grant released or request withdrawn, claim given up, state and DUMP_REQ set, result and stop records written. -/
def State.endJacks (s : State) (reason : Reason) : State :=
  match s.jk.st.work? with
  | none => s
  | some w =>
    let e : StopRecord :=
      { op := w.operation, reason := reason, positions := s.strokeRecord, runMs := s.jackRunMs w
        peak := (s.chan .pump).peak / 100 }
    let res :=
      match w with
      | .levelling _ => some (s.levelResult (levelOutcome reason) (abortReason reason))
      | _ => s.jk.result
    let i := s.idleAfter w reason
    let s1 := (s.closeValves.dropSupply .jacks).giveUp .jacks
    { s1 with jk := s1.jk.ended i res }.recordEnd .jacks e

/-! ## Light jacks (R34, R35) -/

/-- The light test on the latest sample set: pressure × 100 below light share × M, M the truncated mean (R34). -/
def State.isLight (s : State) (j : JackId) : Bool :=
  let ps := s.presentJacks.map s.pressureD
  let m := ps.sum / (ps.length : Int)
  decide (s.pressureD j * 100 < s.jk.cap.level.lightShare * m)

def State.setLight (s : State) (j : JackId) (b : Bool) : State :=
  { s with jk := { s.jk with light := s.jk.light.set j b } }

/-- A step of 2 mm stays within S and within t_i + L (R35). -/
def State.stepFits (s : State) (j : JackId) : Bool :=
  decide (s.strokeD j + 2 ≤ s.jk.cap.geometry.strokeMax) &&
    decide (s.strokeD j + 2 ≤ ((s.jk.touch.get j).getD 0) + s.jk.cap.geometry.liftLimit)

def State.startStep (s : State) (j : JackId) (made : Nat) : State :=
  ({ s with jk := { s.jk with step := some { jack := j, made := made, start := s.strokeD j, mode := .lifting } } }).openValve
    j .first

/-- The next light jack of the list is stepped; with none left the run ends LEVELLED (R34, R35). -/
def State.nextLight (s : State) : List JackId → State
  | [] => s.endJacks .arrived
  | j :: js =>
    if s.isLight j then
      if s.stepFits j then { s with jk := { s.jk with lightList := js } }.startStep j 0
      else (s.setLight j true).nextLight js
    else s.nextLight js

/-- A jack's stepping ends: its LIGHT flag is the light test, and the next jack of the list follows (R35). -/
def State.finishStepping (s : State) (j : JackId) : State :=
  let s1 := s.setLight j (s.isLight j)
  { s1 with jk := { s1.jk with step := none } }.nextLight s1.jk.lightList

def State.enterLoadCheck (s : State) : State :=
  let s1 := { s with jk := { s.jk with st := .work (.levelling .loadCheck), tiltWait := false, step := none } }
  s1.nextLight (s1.presentJacks.filter s1.isLight)

/-- The reading that follows a step settle (R35): the rules in their order. -/
def State.judgeStep (s : State) (p : LightStep) : State :=
  let s := { s with jk := { s.jk with tiltWait := false } }
  if !s.tiltWithin s.jk.cap.level.band then
    { s with jk := { s.jk with step := some { p with mode := .retracting } } }.openValve p.jack .second
  else if !s.isLight p.jack then s.finishStepping p.jack
  else if 5 ≤ p.made then s.finishStepping p.jack
  else if s.stepFits p.jack then s.startStep p.jack p.made
  else s.finishStepping p.jack

/-! ## The lift plan (R28 to R30) -/

/-- The height z_i of a jack (R29). -/
def State.height (s : State) (j : JackId) : Int :=
  divRound (s.jk.cap.geometry.x.get j * s.fe.pitch + s.jk.cap.geometry.y.get j * s.fe.roll) 10000

def maxOf (f : JackId → Int) : List JackId → Int
  | [] => 0
  | [j] => f j
  | j :: js => max (f j) (maxOf f js)

/-- The extension e_i = Z − z_i (R29). -/
def State.extension (s : State) (j : JackId) : Int := maxOf s.height s.presentJacks - s.height j

def State.touchD (s : State) (j : JackId) : Int := (s.jk.touch.get j).getD 0

/-- The reference r_i: t_i in pass 1, s_i later (R30 step 1). -/
def State.planRef (s : State) (k : Nat) (j : JackId) : Int := if k = 1 then s.touchD j else s.strokeD j

/-- The room m_i (R30 step 2). -/
def State.planRoom (s : State) (k : Nat) (j : JackId) : Int :=
  let r := s.planRef k j
  min (s.jk.cap.geometry.liftLimit - (r - s.touchD j)) (s.jk.cap.geometry.strokeMax - r)

/-- The base lift b: the setting for pass 1, 0 for every later pass (R28). -/
def State.planBase (s : State) (k : Nat) : Int := if k = 1 then s.jk.cap.level.baseLift else 0

/-- The deficit D (R30 step 3). -/
def State.planDeficit (s : State) (k : Nat) : Int :=
  max 0 (maxOf (fun j => s.planBase k + s.extension j - s.planRoom k j) s.presentJacks)

/-- The base actually used, b' (R30 step 4). -/
def State.planBaseUsed (s : State) (k : Nat) : Int :=
  if s.planDeficit k ≤ s.planBase k then s.planBase k - s.planDeficit k else 0

/-- CLAMPED in this pass (R30 step 4). -/
def State.planClamped (s : State) (k : Nat) (j : JackId) : Bool :=
  s.straps.hasJack j && decide (s.planBase k < s.planDeficit k) && decide (s.planRoom k j < s.extension j)

/-- The target T_i (R30 step 5); an absent jack has none that is read. -/
def State.planTarget (s : State) (k : Nat) (j : JackId) : Int :=
  if s.straps.hasJack j then s.planRef k j + s.planBaseUsed k + min (s.extension j) (s.planRoom k j) else 0

def State.computePlan (s : State) (k : Nat) : LiftPlan := { target := .tab (s.planTarget k), clamped := .tab (s.planClamped k) }

/-! ## Driving a pass (R31, R32) -/

def stationJacks : Station → List JackId
  | .front => [.lf, .rf]
  | .middle => [.lm, .rm]
  | .rear => [.lr, .rr]

def State.jacksOf (s : State) (t : Station) : List JackId := (stationJacks t).filter s.straps.hasJack

def State.targetOf (s : State) (j : JackId) : Int := (s.jk.plan.map fun p => p.target.get j).getD 0

/-- The remaining error of a station (R31). -/
def State.stationError (s : State) (t : Station) : Int := maxOf (fun j => absInt (s.targetOf j - s.strokeD j)) (s.jacksOf t)

def Levelling.doneStation (j : Levelling) : Station → Bool
  | .front => j.doneFront
  | .middle => j.doneMiddle
  | .rear => j.doneRear

def State.markDone (s : State) (t : Station) : State :=
  match t with
  | .front => { s with jk := { s.jk with doneFront := true, station := none } }
  | .middle => { s with jk := { s.jk with doneMiddle := true, station := none } }
  | .rear => { s with jk := { s.jk with doneRear := true, station := none } }

/-- The greatest remaining error among the stations not yet driven; ties go to FRONT, MIDDLE, REAR (R31). -/
def State.pickStation (s : State) : Option Station :=
  let left := [Station.front, .middle, .rear].filter fun t => !s.jk.doneStation t && !(s.jacksOf t).isEmpty
  left.foldl (fun best t =>
    match best with
    | none => some t
    | some b => if s.stationError b < s.stationError t then some t else some b) none

/-- A jack of the station is judged on its latest stroke (R32). -/
def State.openTowards (s : State) (j : JackId) (target : Int) : State :=
  if s.strokeD j < target - 2 then s.openValve j .first
  else if target + 2 < s.strokeD j then s.openValve j .second
  else s

/-- A driven valve closes at its band (R32, R48). -/
def State.valveAtBand (s : State) (j : JackId) (target : Int) : Bool :=
  match (s.chan (.valve j)).drivenDir with
  | some .first => decide (target - 2 ≤ s.strokeD j)
  | some .second => decide (s.strokeD j ≤ target + 2)
  | none => false

def State.openStation (s : State) (t : Station) : State :=
  let s1 := { s with jk := { s.jk with station := some t } }
  (s1.jacksOf t).foldl (fun u j => u.openTowards j (u.targetOf j)) s1

def State.stationDriving (s : State) (t : Station) : Bool := (s.jacksOf t).any fun j => s.driven (.valve j)

/-- SETTLE starts the settle timer with the captured settle time (R33). -/
def State.enterSettle (s : State) : State :=
  { s with jk := { s.jk with
      st := .work (.levelling .settle), station := none, settleLeft := some s.jk.cap.level.settleMs.toNat, tiltWait := false } }

/-- The next station is chosen and judged; a station with nothing to drive has arrived (R31, R32). -/
def State.chooseStation (s : State) : Nat → State
  | 0 => s.enterSettle
  | n + 1 =>
    match s.pickStation with
    | none => s.enterSettle
    | some t =>
      let s1 := s.openStation t
      if s1.stationDriving t then s1 else (s1.markDone t).chooseStation n

/-- The plan of pass k and the entry to DRIVE(pass k); pass 1 makes the steepness check if acceptance did not (R28). -/
def State.startPass (s : State) (k : Nat) : State :=
  if k = 1 && !s.jk.steepDone && !s.tiltWithin s.jk.cap.level.steepness then s.endJacks .tooSteep
  else
    let p := s.computePlan k
    let s1 := { s with jk := { s.jk with
      st := .work (.levelling .drive)
      passes := k
      plan := some p
      baseUsed := if k = 1 then s.planBaseUsed k else s.jk.baseUsed
      clamped := .tab fun j => s.jk.clamped.get j || p.clamped.get j
      station := none, doneFront := false, doneMiddle := false, doneRear := false, tiltWait := false } }
    s1.chooseStation 3

/-- The tilt reading that ends SETTLE (R33). -/
def State.judgeSettle (s : State) : State :=
  let s := { s with jk := { s.jk with tiltWait := false } }
  if s.tiltWithin s.jk.cap.level.band then s.enterLoadCheck
  else if (s.jk.passes : Int) < s.jk.cap.level.maxPasses then s.startPass (s.jk.passes + 1)
  else s.endJacks .limited

/-! ## Touchdown (R27) -/

def State.setTouch (s : State) (j : JackId) : State :=
  { s with jk := { s.jk with touch := s.jk.touch.set j (some (s.strokeD j)) } }

def State.inContact (s : State) (j : JackId) : Bool := decide (s.jk.cap.level.contact ≤ s.pressureD j)

/-- TOUCHDOWN ends when every present jack has a touchdown stroke (R27); the group reads TOUCHDOWN until the pass 1 plan of
R28 (DESIGN CHOICE, notes 38). -/
def State.touchdownDone (s : State) : State :=
  if s.presentJacks.all fun j => (s.jk.touch.get j).isSome then { s with jk := { s.jk with tdDone := true } } else s

/-- The first sample set with the grant held: each present jack in turn (R27). -/
def State.touchdownFirst (s : State) : State :=
  let s1 := { s with jk := { s.jk with tdStarted := true } }
  (s1.presentJacks.foldl (fun t j => if t.inContact j then t.setTouch j else t.openValve j .first) s1).touchdownDone

/-- One open valve judged on its jack's new sample, pressure first (R27). -/
def State.touchdownJudge (s : State) (j : JackId) : State :=
  if !s.driven (.valve j) then s
  else if s.inContact j then (s.closeValve j).setTouch j
  else if s.jk.cap.geometry.strokeMax ≤ s.strokeD j then
    { s with jk := { s.jk with noGround := s.jk.noGround.set j true } }
  else s

def State.touchdownNext (s : State) : State :=
  let s1 := s.presentJacks.foldl State.touchdownJudge s
  if s1.presentJacks.any s1.jk.noGround.get then s1.endJacks .noGround else s1.touchdownDone

/-! ## Stow and jog (R46, R48) -/

/-- The retract valves of the jacks above 5 mm (R46). -/
def State.openStow (s : State) : State :=
  s.presentJacks.foldl (fun t j => if t.retracted j then t else t.openValve j .second) s

/-- The jog's valve towards its target; within ±2 mm the jog ends at once (R48). -/
def State.jogDrive (s : State) : State :=
  match s.jk.jog with
  | none => s
  | some g =>
    if absInt (s.strokeD g.jack - g.target) ≤ 2 then s.endJacks .arrived else s.openTowards g.jack g.target

/-! ## Suspension and return (R36, R37, R40, R48) -/

/-- The work halts: every valve closed, the settle timers stopped (R36, R37). -/
def State.haltJacks (s : State) : State :=
  let s1 := s.closeValves
  let st :=
    match s1.jk.st with
    | .work w => JackState.suspended w
    | x => x
  { s1 with jk := { s1.jk with st := st, settleLeft := none, stepLeft := none, tiltWait := false } }

/-- Bounds and waits of an operation, 60 s and 45 s (2.1). -/
def jackBound : Nat := 60000
def airDumpMs : Nat := 45000
def stepSettleMs : Nat := 500

/-- SUSPEND from the arbiter (R36). -/
def State.suspendJacks (s : State) : State :=
  let s1 := s.haltJacks
  { s1 with jk := { s1.jk with causes := { s1.jk.causes with supply := true }, suspLeft := some jackBound } }

/-- The guard adds JACKS to the freeze set while an operation is in progress (R37). -/
def State.freezeJacks (s : State) : State :=
  match s.jk.st.work? with
  | none => s
  | some _ =>
    let s1 := s.haltJacks
    { s1 with jk := { s1.jk with causes := { s1.jk.causes with freeze := true } } }

/-- The group returns to the state it left (R40, R48). AIR_DUMP with the input already true is ended by the caller; a
TOUCHDOWN that left before its first sample set opens no valve until the next one (DEDUCED, notes 40). A step settle
that had run out and waited for a tilt sample restarts in full (DESIGN CHOICE, notes 46). -/
def State.returnJacks (s : State) : State :=
  match s.jk.st with
  | .suspended w =>
    let s1 := { s with jk := { s.jk with st := .work w } }
    match w with
    | .levelling .airDump => { s1 with jk := { s1.jk with airLeft := some airDumpMs } }
    | .levelling .touchdown =>
      if s1.holds .jacks && s1.jk.tdStarted then
        s1.presentJacks.foldl (fun t j => if (t.jk.touch.get j).isSome then t else t.openValve j .first) s1
      else s1
    | .levelling .drive =>
      match s1.jk.station with
      | some t =>
        let s2 := s1.openStation t
        if s2.stationDriving t then s2 else (s2.markDone t).chooseStation 3
      | none => s1.chooseStation 3
    | .levelling .settle => { s1 with jk := { s1.jk with settleLeft := some s1.jk.cap.level.settleMs.toNat, tiltWait := false } }
    | .levelling .loadCheck =>
      match s1.jk.step with
      | some p =>
        match p.mode with
        | .lifting => s1.openValve p.jack .first
        | .settling => { s1 with jk := { s1.jk with stepLeft := some stepSettleMs, tiltWait := false } }
        | .retracting => s1.openValve p.jack .second
      | none => s1
    | .stowing => if s1.holds .jacks then s1.openStow else s1
    | .jogging => if s1.holds .jacks then s1.jogDrive else s1
  | _ => s

def State.returnJacksIfFree (s : State) : State := if s.jk.causes.isEmpty then s.returnJacks else s

/-- GRANTED (R26, R46, R48): the wait bound is cancelled; a suspended operation only holds the grant (R37, R108). -/
def State.grantJacks (s : State) : State :=
  let s1 := { s with jk := { s.jk with waitLeft := none } }
  match s1.jk.st with
  | .work .stowing => s1.openStow
  | .work .jogging => s1.jogDrive
  | _ => s1

/-- RESUME from the arbiter (R36). -/
def State.resumeJacks (s : State) : State :=
  let s1 := { s with jk := { s.jk with causes := { s.jk.causes with supply := false }, suspLeft := none } }
  s1.returnJacksIfFree

/-- HOLD_LAPSE joins a jog's cause set and the resume window starts (R49). -/
def State.lapseJog (s : State) : State :=
  let s1 := s.haltJacks
  { s1 with jk := { s1.jk with
      causes := { s1.jk.causes with holdLapse := true }, lapsed := false, resumeLeft := some s1.jk.cap.resumeWindow } }

/-- FREEZE leaves the cause set (R37, R49, R137): a lapsed hold joins now, a stopped wait bound restarts in full, also of a
jog that HOLD_LAPSE keeps SUSPENDED (DEDUCED, notes 39). -/
def State.unfreezeJacks (s : State) : State :=
  let s1 := { s with jk := { s.jk with
    causes := { s.jk.causes with freeze := false }, waitLeft := s.jk.waitLeft.map fun _ => jackBound } }
  let s2 := if s1.jk.lapsed then s1.lapseJog else s1
  s2.returnJacksIfFree

/-- A HOLD naming JACKS for a jog in progress (R49). -/
def State.holdJog (s : State) : State :=
  let s1 := { s with jk := { s.jk with
    holdLeft := some s.jk.cap.holdLapse, lapsed := false, resumeLeft := none
    causes := { s.jk.causes with holdLapse := false } } }
  if s.jk.causes.holdLapse then s1.returnJacksIfFree else s1

/-! ## Drift (R43, R44) -/

/-- The end of a room operation starts or restarts the drift timer while JACKS is LEVELLED (R43). In every other state,
TESTING that remembers LEVELLED among them, the timer and a wait for a tilt sample stay as they are (R43 against R44,
DESIGN CHOICE, notes 42). -/
def State.roomEnded (s : State) : State :=
  if s.jk.st = .idle .levelled then
    { s with jk := { s.jk with driftLeft := some s.jk.cap.level.settleMs.toNat, driftWait := false } }
  else s

/-- The drift check on the filtered tilt (R44). -/
def State.driftCheck (s : State) : State :=
  let s1 := { s with jk := { s.jk with driftLeft := none, driftWait := false } }
  if s1.tiltWithin (2 * s1.jk.cap.level.band) then s1
  else
    match s1.jk.st with
    | .idle .levelled => { s1 with jk := { s1.jk with st := .idle .drifted } }.joinGroup .jacks
    | .testing .levelled => { s1 with jk := { s1.jk with st := .testing .drifted } }.joinGroup .jacks
    | _ => s1

/-! ## The engine at a sample set -/

/-- The faults a sample set shows (R4, R8). -/
structure SampleFaults where
  tilt : Bool
  jack : Bool
  deriving DecidableEq, Repr

/-- RETRACTED and DOWN are derived again at each sample set (R21). -/
def State.rederive (s : State) : State :=
  if s.allRetracted then { s with jk := { s.jk with st := .idle .retracted, dumpReq := false } }
  else { s with jk := { s.jk with st := .idle .down } }

/-- The jack being stepped, at a sample set (R35). -/
def State.stepSample (s : State) (p : LightStep) (tilt : Bool) : State :=
  match p.mode with
  | .lifting =>
    if p.start + 2 ≤ s.strokeD p.jack then
      let s1 := s.closeValve p.jack
      { s1 with jk := { s1.jk with
        step := some { p with made := p.made + 1, mode := .settling }, stepLeft := some stepSettleMs } }
    else s
  | .settling => if s.jk.tiltWait && tilt then s.judgeStep p else s
  | .retracting => if s.strokeD p.jack ≤ p.start then (s.closeValve p.jack).finishStepping p.jack else s

/-- The station being driven, at a sample set (R32). -/
def State.driveSample (s : State) : State :=
  match s.jk.station with
  | none => s
  | some t =>
    let s1 := (s.jacksOf t).foldl (fun u j => if u.valveAtBand j (u.targetOf j) then u.closeValve j else u) s
    if s1.stationDriving t then s1 else (s1.markDone t).chooseStation 3

/-- The stow at a sample set (R46), which also ends one that had nothing to drive (DESIGN CHOICE, notes 32). -/
def State.stowSample (s : State) : State :=
  if !s.holds .jacks then s
  else
    let s1 := s.presentJacks.foldl (fun t j => if t.driven (.valve j) && t.retracted j then t.closeValve j else t) s
    if s1.allRetracted then s1.endJacks .arrived else s1

/-- The jog at a sample set (R48). -/
def State.jogSample (s : State) : State :=
  match s.jk.jog with
  | none => s
  | some g => if s.valveAtBand g.jack g.target then s.endJacks .arrived else s

/-- The engine takes one sample set: the faults first, then the work of its state (R4, R8, R21, R27, R28, R32, R33, R35,
R44, R46, R48). -/
def State.jackSample (s : State) (faults : SampleFaults) (tilt : Bool) : State :=
  let s1 := if faults.tilt && s.jk.st.isLevelAuto then s.endJacks .sensorFault else s
  let s2 := if faults.jack then (s1.endJacks .sensorFault).joinGroup .jacks else s1
  match s2.jk.st with
  | .work (.levelling .touchdown) =>
    if !s2.holds .jacks then s2
    else if s2.jk.tdDone then (if tilt then s2.startPass 1 else s2)
    else if s2.jk.tdStarted then s2.touchdownNext
    else s2.touchdownFirst
  | .work (.levelling .drive) => s2.driveSample
  | .work (.levelling .settle) => if s2.jk.tiltWait && tilt then s2.judgeSettle else s2
  | .work (.levelling .loadCheck) =>
    match s2.jk.step with
    | some p => s2.stepSample p tilt
    | none => s2
  | .work .stowing => s2.stowSample
  | .work .jogging => s2.jogSample
  | .idle .retracted => s2.rederive
  | .idle .down => s2.rederive
  | .idle .levelled => if s2.jk.driftWait && tilt then s2.driftCheck else s2
  | .testing .levelled => if s2.jk.driftWait && tilt then s2.driftCheck else s2
  | _ => s2

end Sys2Proof.Machine
end

