-- ==== Sys2Proof/Machine/RoomCore.lean ====
section
/-!
DEFINITION. A room controller (chapter 3): the end of an operation, the grant and the pin, driving and the judgements of
a sample, hold-to-run, suspension and return. An end takes the room's entry out of the arbiter's collections; the walk
that follows is made by the event (Supply.lean).
-/

namespace Sys2Proof.Machine

open Sys2Proof

/-- The settings a room operation captures (3.1). -/
def State.roomCapture (s : State) (r : RoomId) : RoomCap :=
  { cal := s.store.active.roomCal.get r, run := s.store.active.roomRun, draw := s.store.active.supply.room.toNat }

/-- The room with its operation over and every timer of it stopped (R75). -/
def Room.ended (x : Room) (known : Bool) (p : EndPosition) : Room :=
  { x with
    st := .idle, causes := .none, lapsed := false, foreStopped := false, aftStopped := false, known := known, endPos := p
    holdLeft := none, resumeLeft := none, pinLeft := none, ctrlLeft := none }

/-- The highest reading on either drive channel, 0.1 A (R161). -/
def State.roomPeak (s : State) (r : RoomId) : Nat :=
  max (s.chan (.drive r .fore)).peak (s.chan (.drive r .aft)).peak / 100

def State.roomPositions (s : State) (r : RoomId) : Positions :=
  .room (s.sense r).fore.live (s.sense r).aft.live

/-- The end of a room operation as one event (R74, R75): channels OFF, grant released or request withdrawn, claim given
up, position-known and end position set, the stop record written, the end handed to the levelling engine (R43). -/
def State.finishRoom (s : State) (r : RoomId) (reason : Reason) (known : Bool) (p : EndPosition) : State :=
  match (s.room r).st.work? with
  | none => s
  | some _ =>
    let x := s.room r
    let e : StopRecord :=
      { op := if x.home then .home else .move, reason := reason, positions := s.roomPositions r, runMs := x.runMs
        peak := s.roomPeak r }
    let s1 := ((s.roomOff r).dropSupply (.room r)).giveUp (.room r)
    ((s1.setRoom r (x.ended known p)).recordEnd (.room r) e).roomEnded

/-- An end that leaves position-known and the end position as they are (R74 "unchanged"), of a Home too: a room that was
known stays so (DEDUCED, notes 34). -/
def State.endRoom (s : State) (r : RoomId) (reason : Reason) : State :=
  s.finishRoom r reason (s.room r).known (s.room r).endPos

/-- An end that makes the room position unsure (R52, R60, R66). -/
def State.endRoomUnsure (s : State) (r : RoomId) (reason : Reason) : State := s.finishRoom r reason false .unknown

/-- The front end sets both counts to 0 (R77, R78). -/
def State.zeroRoom (s : State) (r : RoomId) : State :=
  s.setSense r { s.sense r with fore := .zero, aft := .zero }

/-- The operation arrives IN (R65) or the Home completes (R78): a Home sets both counts to 0. -/
def State.roomArrivesIn (s : State) (r : RoomId) (reason : Reason) : State :=
  if (s.room r).home then (s.zeroRoom r).finishRoom r reason true .inn
  else s.finishRoom r reason (if reason = .arrived then true else (s.room r).known) .inn

/-! ## The pin (R58, R65) -/

def pinMs : Nat := 1500

/-- PREPARING: the pin channel driven to withdraw with a fresh pin timer (R57, R58). -/
def State.enterPreparing (s : State) (r : RoomId) : State :=
  let s1 := s.drive (.pin r) .first 100
  s1.setRoom r { s1.room r with st := .work .preparing, pinLeft := some pinMs }

/-- SETTLING: the drives OFF, the control interval and the hold timer stopped, the pin driven to engage (R65). The end
position is UNKNOWN in it (R154), also of a room whose drives never ran (notes 36). -/
def State.enterSettling (s : State) (r : RoomId) : State :=
  let s1 := ((s.off (.drive r .fore)).off (.drive r .aft)).drive (.pin r) .second 100
  s1.setRoom r { s1.room r with st := .work .settling, endPos := .unknown, pinLeft := some pinMs, ctrlLeft := none, holdLeft := none, lapsed := false }

/-! ## Moving (R59 to R66) -/

def controlMs : Nat := 50

/-- The distance between the two counts last handed on (R60). -/
def State.lead (s : State) (r : RoomId) : Int := absInt ((s.sense r).fore.handed - (s.sense r).aft.handed)

def Room.stopped (x : Room) : Drive → Bool
  | .fore => x.foreStopped
  | .aft => x.aftStopped

def Room.setStopped (x : Room) (d : Drive) : Room :=
  match d with
  | .fore => { x with foreStopped := true }
  | .aft => { x with aftStopped := true }

/-- Whether a drive must run on entry to MOVING (R59). -/
def State.driveRuns (s : State) (r : RoomId) (d : Drive) : Bool :=
  let x := s.room r
  let q := s.sense r
  match x.target with
  | .out => !x.stopped d
  | .inn => !(q.inStop d).reads
  | .position n => !(decide (absInt ((q.count d).handed - n) ≤ 4) || x.stopped d)

/-- The direction a drive runs in: OUT is the first direction, IN the second (R59, R140). -/
def State.driveDir (s : State) (r : RoomId) (d : Drive) : ChanDir :=
  match (s.room r).target with
  | .out => .first
  | .inn => .second
  | .position n => if ((s.sense r).count d).handed < n then .first else .second

/-- The nominal duty of a direction; HOME uses 50 % (R59). -/
def Room.nominal (x : Room) (d : ChanDir) : Int :=
  if x.home then 50
  else
    match d with
    | .first => x.cap.run.extendDuty
    | .second => x.cap.run.retractDuty

/-- The count lies in the out-stop window (R63). -/
def Room.inOutWindow (x : Room) (c : Int) : Bool :=
  decide (x.cap.cal.travel - x.cap.cal.endWindow ≤ c) && decide (c ≤ x.cap.cal.travel + x.cap.cal.endWindow)

/-- The arrival test with no drive driven (R63, R64, R65, R78). -/
def State.roomArrival (s : State) (r : RoomId) : State :=
  let x := s.room r
  let q := s.sense r
  match x.target with
  | .inn => if q.bothIn then s.enterSettling r else s
  | .out => if x.foreStopped && x.aftStopped then s.finishRoom r .arrived true .out else s
  | .position n =>
    if absInt (q.fore.handed - n) ≤ 4 && absInt (q.aft.handed - n) ≤ 4 then s.finishRoom r .arrived true (.position n)
    else s.endRoomUnsure r .syncFault

/-- A drive starts at nominal duty (R59). -/
def State.startDrive (s : State) (r : RoomId) (d : Drive) : State :=
  if s.driveRuns r d then s.drive (.drive r d) (s.driveDir r d) ((s.room r).nominal (s.driveDir r d)) else s

/-- Entry to MOVING (R59): the fault check of a MOVE, the drives that run, or the arrival test. -/
def State.enterMoving (s : State) (r : RoomId) : State :=
  let s0 := s.setRoom r { s.room r with st := .work .moving, pinLeft := none }
  let x := s0.room r
  if !x.home && decide (x.cap.run.faultLimit ≤ s0.lead r) then s0.endRoomUnsure r .syncFault
  else if s0.driveRuns r .fore || s0.driveRuns r .aft then
    let s1 := (s0.startDrive r .fore).startDrive r .aft
    s1.setRoom r { s1.room r with endPos := .unknown, ctrlLeft := some controlMs }
  else s0.roomArrival r

/-- The grant is held and the cause set is empty (R57). -/
def State.proceedRoom (s : State) (r : RoomId) : State :=
  let x := s.room r
  let q := s.sense r
  if x.target = .inn && q.bothIn then s.enterSettling r
  else if q.pin = .withdrawn then s.enterMoving r
  else s.enterPreparing r

/-- The pin reads WITHDRAWN in PREPARING (R58). -/
def State.pinWithdrawn (s : State) (r : RoomId) : State := (s.off (.pin r)).enterMoving r

/-- The pin reads ENGAGED in SETTLING (R65, R78). -/
def State.pinEngaged (s : State) (r : RoomId) : State := (s.off (.pin r)).roomArrivesIn r .arrived

/-! ## Control interval (R60) -/

/-- The corrected duty of the leading drive (R60). -/
def Room.corrected (x : Room) (nominal lead : Int) : Int :=
  if lead ≤ x.cap.run.syncWindow then nominal else max 40 (nominal - x.cap.run.correction * (lead - x.cap.run.syncWindow))

/-- The leading drive is the one further along in the direction of travel (R60). -/
def State.leading (s : State) (r : RoomId) (d : ChanDir) : Drive :=
  let f := (s.sense r).fore.handed
  let a := (s.sense r).aft.handed
  match d with
  | .first => if a ≤ f then .fore else .aft
  | .second => if f ≤ a then .fore else .aft

/-- The duties of one control interval: both drives of a MOVE in the same direction are corrected, one drive alone is
left at nominal (R60). -/
def State.correctDuties (s : State) (r : RoomId) : State :=
  let x := s.room r
  match (s.chan (.drive r .fore)).drivenDir, (s.chan (.drive r .aft)).drivenDir with
  | some df, some da =>
    if df = da && !x.home then
      let n := x.nominal df
      let l := s.leading r df
      (s.drive (.drive r l) df (x.corrected n (s.lead r))).drive (.drive r l.other) df n
    else s
  | _, _ => s

/-- The partner of a drive that stopped runs on at nominal duty (R60, R63). -/
def State.partnerNominal (s : State) (r : RoomId) (d : Drive) : State :=
  match (s.chan (.drive r d)).drivenDir with
  | some q => s.drive (.drive r d) q ((s.room r).nominal q)
  | none => s

/-- A drive of the room stops at its end and is marked so (R79); its partner runs on alone (R63, R64, R65). -/
def State.stopDrive (s : State) (r : RoomId) (d : Drive) : State :=
  let s1 := (s.off (.drive r d)).partnerNominal r d.other
  s1.setRoom r ((s1.room r).setStopped d)

/-! ## The judgements of one sample (R67) -/

/-- A drive of a MOVE has run past its travel window, on the in-stop's debounced state in this sample (R10, R66). -/
def State.overrun (s : State) (r : RoomId) (d : Drive) : Bool :=
  let x := s.room r
  let c := ((s.sense r).count d).handed
  match (s.chan (.drive r d)).drivenDir with
  | some .first => decide (x.cap.cal.travel + x.cap.cal.endWindow < c)
  | some .second => decide (c < -x.cap.cal.endWindow) && !((s.sense r).inStop d).reads
  | none => false

/-- A driven drive has met the switch or the count that ends its travel (R64, R65); a change of the switch is told
separately (notes 3). -/
def State.reachedEnd (s : State) (r : RoomId) (d : Drive) : Bool :=
  let c := ((s.sense r).count d).handed
  match (s.room r).target, (s.chan (.drive r d)).drivenDir with
  | .position n, some .first => decide (n ≤ c)
  | .position n, some .second => decide (c ≤ n)
  | .inn, some _ => ((s.sense r).inStop d).standsMade
  | _, _ => false

/-- One drive judged: overrun, then the end of its travel (R67). -/
def State.judgeDrive (s : State) (r : RoomId) (d : Drive) : State :=
  if !s.driven (.drive r d) then s
  else if !(s.room r).home && s.overrun r d then s.endRoomUnsure r .sensorFault
  else if s.reachedEnd r d then s.stopDrive r d
  else s

def State.roomMoving (s : State) (r : RoomId) : Bool := decide ((s.room r).st = .work .moving)

/-- The fault check of a MOVE (R60). -/
def State.leadFault (s : State) (r : RoomId) : Bool :=
  !(s.room r).home && decide ((s.room r).cap.run.faultLimit ≤ s.lead r)

/-- What follows once a drive has stopped: the arrival test when none runs (R63, R64, R65). -/
def State.arriveIfStill (s : State) (r : RoomId) : State :=
  if s.roomMoving r && !s.anyDrive r then s.roomArrival r else s

/-- One sample of a moving room: the fore drive, the aft drive, the fault check, in this order, the first end ending it
(R67). -/
def State.roomMovingSample (s : State) (r : RoomId) : State :=
  if !s.anyDrive r then s
  else
    let s1 := s.judgeDrive r .fore
    if !s1.roomMoving r then s1
    else
      let s2 := s1.judgeDrive r .aft
      if !s2.roomMoving r then s2
      else if s2.leadFault r then s2.endRoomUnsure r .syncFault
      else s2.arriveIfStill r

/-- The room takes one sample set (R58, R65, R67); a change of the pin is told separately (notes 3). -/
def State.roomSample (s : State) (r : RoomId) : State :=
  match (s.room r).st with
  | .work .preparing => if (s.sense r).pinStands .withdrawn then s.pinWithdrawn r else s
  | .work .settling => if (s.sense r).pinStands .engaged then s.pinEngaged r else s
  | .work .moving => s.roomMovingSample r
  | _ => s

/-! ## Stalls (R61, R63, R64, R65, R78) -/

/-- A drive stalls: at the out-stop it stops, elsewhere the operation ends with OBSTRUCTION (R63 to R65, R78); the fault
check follows (R67). -/
def State.roomStalls (s : State) (r : RoomId) (d : Drive) : State :=
  let x := s.room r
  if x.target = .out && x.inOutWindow ((s.sense r).count d).handed then
    let s1 := s.stopDrive r d
    if s1.leadFault r then s1.endRoomUnsure r .syncFault else s1.arriveIfStill r
  else s.endRoom r .obstruction

/-! ## Suspension and return (R69, R71 to R73) -/

/-- Every channel of the room OFF, the pin timer and the control interval stopped; the state left is remembered (R51).
A room that is SUSPENDED already keeps the state it remembers, WAIT_SUPPLY too (DESIGN CHOICE, notes 43). -/
def State.haltRoom (s : State) (r : RoomId) : State :=
  let s1 := s.roomOff r
  let x := s1.room r
  let st :=
    match x.st with
    | .work w => RoomState.suspended w
    | y => y
  s1.setRoom r { x with st := st, pinLeft := none, ctrlLeft := none }

/-- SUSPEND from the arbiter (R71, R110). A room that was frozen, or whose hold lapsed, in WAIT_SUPPLY and that was
granted meanwhile goes on remembering WAIT_SUPPLY, where R71 names PREPARING, MOVING or SETTLING (DESIGN CHOICE,
notes 43). -/
def State.suspendRoom (s : State) (r : RoomId) : State :=
  let s1 := s.haltRoom r
  s1.setRoom r { s1.room r with causes := { (s1.room r).causes with supply := true } }

def State.freezeRoom (s : State) (r : RoomId) : State :=
  match (s.room r).st.work? with
  | none => s
  | some _ =>
    let s1 := s.haltRoom r
    s1.setRoom r { s1.room r with causes := { (s1.room r).causes with freeze := true } }

/-- HOLD_LAPSE joins and the resume window starts with its captured length (R69). -/
def State.lapseRoom (s : State) (r : RoomId) : State :=
  let s1 := s.haltRoom r
  let x := s1.room r
  s1.setRoom r { x with
    causes := { x.causes with holdLapse := true }, lapsed := false, resumeLeft := some (x.cap.run.resumeWindow.toNat * 1000) }

/-- A suspended room takes up its work (R73): one that remembers WAIT_SUPPLY and holds its grant proceeds as on the
grant (R57). -/
def State.returnRoom (s : State) (r : RoomId) : State :=
  match (s.room r).st with
  | .suspended w =>
    let s1 := s.setRoom r { s.room r with st := .work w }
    match w with
    | .waitSupply => if s1.holds (.room r) then s1.proceedRoom r else s1
    | .preparing => if (s1.sense r).pin = .withdrawn then s1.enterMoving r else s1.enterPreparing r
    | .moving => s1.enterMoving r
    | .settling => if (s1.sense r).pin = .engaged then s1.roomArrivesIn r .arrived else s1.enterSettling r
  | _ => s

def State.returnRoomIfFree (s : State) (r : RoomId) : State := if (s.room r).causes.isEmpty then s.returnRoom r else s

/-- GRANTED (R57, R108): a suspended room only holds the grant. -/
def State.grantRoom (s : State) (r : RoomId) : State :=
  match (s.room r).st with
  | .work .waitSupply => s.proceedRoom r
  | _ => s

/-- RESUME from the arbiter (R71). -/
def State.resumeRoom (s : State) (r : RoomId) : State :=
  (s.setRoom r { s.room r with causes := { (s.room r).causes with supply := false } }).returnRoomIfFree r

/-- FREEZE leaves the cause set (R72, R137). -/
def State.unfreezeRoom (s : State) (r : RoomId) : State :=
  let s1 := s.setRoom r { s.room r with causes := { (s.room r).causes with freeze := false } }
  let s2 := if (s1.room r).lapsed then s1.lapseRoom r else s1
  s2.returnRoomIfFree r

/-- Whether a HOLD counts for the room (R68). -/
def State.roomHoldable (s : State) (r : RoomId) : Bool :=
  match (s.room r).st.work? with
  | some .settling => false
  | some _ => true
  | none => false

/-- A HOLD naming the room (R68). -/
def State.holdRoom (s : State) (r : RoomId) : State :=
  let x := s.room r
  let s1 := s.setRoom r { x with
    holdLeft := some x.cap.run.holdLapse.toNat, lapsed := false, resumeLeft := none
    causes := { x.causes with holdLapse := false } }
  if x.causes.holdLapse then s1.returnRoomIfFree r else s1

end Sys2Proof.Machine
end

