-- ==== Sys2Proof/Machine/AwningCore.lean ====
section
/-!
DEFINITION. The awning controller (chapter 4) up to its stows: the end of an operation, driving and arrival, suspension
and return. An end takes the awning's entry out of the arbiter's collections; the walk that follows is made by the event
(Supply.lean).
-/

namespace Sys2Proof.Machine

open Sys2Proof

/-- The settings an awning operation captures (4.1). -/
def State.awningCapture (s : State) : AwningCap :=
  { cal := s.store.active.awningCal, run := s.store.active.awningRun, draw := s.store.active.supply.awning.toNat }

def State.modAw (s : State) (f : Awning → Awning) : State := { s with aw := f s.aw }

/-- The awning with its operation over and every timer of it stopped (R87). -/
def Awning.ended (a : Awning) (known : Bool) (p : EndPosition) : Awning :=
  { a with st := .idle, causes := .none, stowCause := none, known := known, endPos := p, waitLeft := none, suspLeft := none }

def AwningOp.operation : AwningOp → Operation
  | .move => .move
  | .home => .home
  | .stow => .stow

/-- The end of an awning operation as one event (R87). -/
def State.finishAwning (s : State) (reason : Reason) (known : Bool) (p : EndPosition) : State :=
  match s.aw.st.work? with
  | none => s
  | some _ =>
    let e : StopRecord :=
      { op := s.aw.op.operation, reason := reason, positions := .awning s.fe.awningCount.live, runMs := s.aw.runMs
        peak := (s.chan .awning).peak / 100 }
    let s1 := (s.off .awning).dropSupply .awning
    ({ s1 with aw := s1.aw.ended known p }).recordEnd .awning e

/-- An end that leaves position-known and the end position as they are (R81, R87). -/
def State.endAwning (s : State) (reason : Reason) : State := s.finishAwning reason s.aw.known s.aw.endPos

/-- The front end sets the awning count to 0 (R11, R85, R89). -/
def State.zeroAwning (s : State) : State := { s with fe := { s.fe with awningCount := .zero } }

/-- Arrival at the stowed switch: count 0, position known, end position IN (R81, R85, R89, R94). -/
def State.awningArrivesIn (s : State) : State := s.zeroAwning.finishAwning .arrived true .inn

/-- The count a MOVE OUT or POSITION seeks (R84, R85). -/
def Awning.targetCount (a : Awning) : Option Int :=
  match a.target with
  | .inn => none
  | .out => some a.cap.cal.travel
  | .position n => some n

def Awning.endPosition (a : Awning) : EndPosition :=
  match a.target with
  | .inn => .inn
  | .out => .out
  | .position n => .position n

/-- The direction towards the target on the latest sample: outward to a count above, inward to a count below and to the
switch (R84, R85; DEDUCED, notes 11). -/
def State.towardsTarget (s : State) : ChanDir :=
  match s.aw.targetCount with
  | some n => if s.fe.awningCount.handed < n then .first else .second
  | none => .second

/-- Channel 19 driven towards the target, a Home at 50 % (R85, R89). With the park brake released nothing is driven outward
(R119): a move taken as a retraction whose target now lies outward ends with INTERLOCK instead (DESIGN CHOICE, notes 11). -/
def State.driveAwning (s : State) : State :=
  if s.brakeReleased && decide (s.towardsTarget = .first) then s.endAwning .interlock
  else
    (s.drive .awning s.towardsTarget (if s.aw.op = .home then 50 else 100)).modAw fun a => { a with endPos := .unknown }

/-- Entry to MOVING (R85): at its target already, it arrives without driving. -/
def State.enterAwningMoving (s : State) : State :=
  let s0 := s.modAw fun a => { a with st := .work .moving, waitLeft := none }
  match s0.aw.targetCount with
  | some n =>
    if absInt (s0.fe.awningCount.handed - n) ≤ 8 then s0.finishAwning .arrived s0.aw.known s0.aw.endPosition else s0.driveAwning
  | none => if s0.stowed then s0.awningArrivesIn else s0.driveAwning

/-- STOWING: channel 19 retracts at 100 % (R94); a switch already MADE is an arrival (R96). -/
def State.enterStowing (s : State) : State :=
  let s0 := s.modAw fun a => { a with st := .work .stowing }
  if s0.stowed then s0.awningArrivesIn
  else (s0.drive .awning .second 100).modAw fun a => { a with endPos := .unknown }

/-- The awning has run past its travel (R85); Home and stow make no such check (R89, R94). -/
def State.awningOverrun (s : State) : Bool :=
  let c := s.fe.awningCount.handed
  decide (s.aw.op = .move) &&
    (match (s.chan .awning).drivenDir with
      | some .first => decide (s.aw.cap.cal.travel + 50 < c)
      | some .second => decide (c < -50) && !s.stowed
      | none => false)

/-- A driven MOVE to a count has arrived (R85). -/
def State.awningAtTarget (s : State) : Bool :=
  match s.aw.targetCount, (s.chan .awning).drivenDir with
  | some n, some .first => decide (n - 8 ≤ s.fe.awningCount.handed)
  | some n, some .second => decide (s.fe.awningCount.handed ≤ n + 8)
  | _, _ => false

/-- The stowed switch ends the travel of a MOVE IN, a Home or a stow (R85, R89, R94). -/
def Awning.seeksSwitch (a : Awning) : Bool := decide (a.target = .inn) || decide (a.op = .stow)

/-- The awning takes one sample set: overrun before arrival (R85); a change of the switch is told separately (notes 3). -/
def State.awningSample (s : State) : State :=
  if !s.driven .awning then s
  else if s.awningOverrun then s.finishAwning .sensorFault false .unknown
  else if s.aw.seeksSwitch then (if s.fe.stowed.standsMade then s.awningArrivesIn else s)
  else if s.awningAtTarget then s.finishAwning .arrived s.aw.known s.aw.endPosition
  else s

/-! ## Suspension and return (R88, R96) -/

/-- 30 s (4.1). -/
def awningBound : Nat := 30000

/-- Channel 19 OFF, and the state left is remembered (R80); an awning that is SUSPENDED already keeps the state it
remembers, WAIT_SUPPLY too (DESIGN CHOICE, notes 43). -/
def State.haltAwning (s : State) : State :=
  let s1 := s.off .awning
  s1.modAw fun a => { a with
    st := match a.st with
      | .work w => .suspended w
      | x => x }

/-- SUSPEND from the arbiter (R88). One that was frozen in WAIT_SUPPLY and granted meanwhile goes on remembering
WAIT_SUPPLY, where R88 says MOVING (DESIGN CHOICE, notes 43). -/
def State.suspendAwning (s : State) : State :=
  s.haltAwning.modAw fun a => { a with causes := { a.causes with supply := true }, suspLeft := some awningBound }

def State.freezeAwning (s : State) : State :=
  match s.aw.st.work? with
  | none => s
  | some _ => s.haltAwning.modAw fun a => { a with causes := { a.causes with freeze := true } }

/-- The awning returns to the state it left (R88, R96). -/
def State.returnAwning (s : State) : State :=
  match s.aw.st with
  | .suspended w =>
    let s1 := s.modAw fun a => { a with st := .work w }
    match w with
    | .waitSupply => if s1.holds .awning then s1.enterAwningMoving else s1
    | .moving => s1.enterAwningMoving
    | .stowing => s1.enterStowing
  | _ => s

def State.returnAwningIfFree (s : State) : State := if s.aw.causes.isEmpty then s.returnAwning else s

/-- GRANTED to a MOVE or HOME (R84, R108): a suspended one only holds the grant. -/
def State.grantAwning (s : State) : State :=
  let s1 := s.modAw fun a => { a with waitLeft := none }
  match s1.aw.st with
  | .work .waitSupply => s1.enterAwningMoving
  | _ => s1

/-- RESUME from the arbiter (R88). -/
def State.resumeAwning (s : State) : State :=
  (s.modAw fun a => { a with causes := { a.causes with supply := false }, suspLeft := none }).returnAwningIfFree

/-- FREEZE leaves the cause set; a stopped wait bound restarts in full (R88, R137). -/
def State.unfreezeAwning (s : State) : State :=
  (s.modAw fun a => { a with
    causes := { a.causes with freeze := false }, waitLeft := a.waitLeft.map fun _ => awningBound }).returnAwningIfFree

end Sys2Proof.Machine
end

