-- ==== Sys2Proof/Machine/Supply.lean ====
section
/-!
DEFINITION. The supply arbiter at work (chapter 5): notices to holders, the walk of the waiting list, requests,
suspensions, a STOW's request, and the changes of the budget.
-/

namespace Sys2Proof.Machine

open Sys2Proof

/-- GRANTED or RESUME to a holder, which acts by its own chapter (R108). -/
def State.notifyGrant (s : State) (e : Waiting) : State :=
  match e.holder, e.before with
  | .jacks, false => s.grantJacks
  | .jacks, true => s.resumeJacks
  | .room r, false => s.grantRoom r
  | .room r, true => s.resumeRoom r
  | .awning, false => s.grantAwning
  | .awning, true => s.resumeAwning

/-- An entry leaves the list and joins the end of the grant table (R103, R107). -/
def State.grantHead (s : State) (e : Waiting) (rest : List Waiting) : State :=
  { s with arb := { s.arb with
    waiting := rest, grants := s.arb.grants ++ [{ holder := e.holder, cls := e.cls, draw := e.draw }] } }

/-- The walk (R107): entries from the head while they fit. A holder whose operation ends in the same event has left both
collections, and the walk goes on from the head, as the walk of its release would (R112). The fuel is the length of the
list, which every grant shortens. -/
def State.walkFuel (s : State) : Nat → State
  | 0 => s
  | n + 1 =>
    match s.arb.waiting with
    | [] => s
    | e :: rest => if s.grantSum + e.draw ≤ s.budget then ((s.grantHead e rest).notifyGrant e).walkFuel n else s

def State.walk (s : State) : State := s.walkFuel s.arb.waiting.length

/-- The walk that a release or a withdrawal calls for: made when the event has taken an entry out of the collections, and
not otherwise (R112, R113). -/
def State.walkAfter (before after : State) : State :=
  if after.entryCount < before.entryCount then after.walk else after

/-- A request arrives: its entry is placed without the mark and the list is walked (R106). -/
def State.requestSupply (s : State) (g : Group) (c : SupplyClass) (draw : Nat) : State :=
  let e : Waiting := { holder := g, cls := c, draw := draw, before := false }
  ({ s with arb := { s.arb with waiting := placeWaiting e s.arb.waiting } } : State).walk

/-- SUSPEND to a holder (R110). -/
def State.notifySuspend (s : State) : Group → State
  | .jacks => s.suspendJacks
  | .room r => s.suspendRoom r
  | .awning => s.suspendAwning

/-- A holder is suspended: out of the grant table, back into the list with the mark, SUSPEND sent (R110). -/
def State.suspendHolder (s : State) (v : Grant) : State :=
  let a := { s.arb with
    grants := s.arb.grants.filter fun e => decide (e.holder ≠ v.holder)
    waiting := placeWaiting { holder := v.holder, cls := v.cls, draw := v.draw, before := true } s.arb.waiting }
  ({ s with arb := a.sagIfEmpty } : State).notifySuspend v.holder

/-- Holders are suspended in victim order until the sum and `need` fit the budget (R109, R111). The fuel is the length of
the grant table, which every suspension shortens. -/
def State.suspendUntil (s : State) (need : Nat) : Nat → State
  | 0 => s
  | n + 1 =>
    if s.grantSum + need ≤ s.budget then s
    else
      match victimOf s.arb.grants with
      | none => s
      | some v => (s.suspendHolder v).suspendUntil need n

/-- A STOW's request: room is made, and the stow is granted in the same event, with no walk (R109). -/
def State.requestStow (s : State) (draw : Nat) : State :=
  let s1 := s.suspendUntil draw s.arb.grants.length
  { s1 with arb := { s1.arb with grants := s1.arb.grants ++ [{ holder := .awning, cls := .stow, draw := draw }] } }

/-- What a change of the budget calls for (R98, R111): a rise walks the list, a fall below the sum suspends holders. -/
def State.budgetChanged (s : State) (old : Nat) : State :=
  if old < s.budget then s.walk else s.suspendUntil 0 s.arb.grants.length

/-- The base as the debounced inputs give it (R98). -/
def State.inputBase (s : State) : Nat := if s.inputs.engine.level || s.inputs.charging.level then 240 else 160

def State.rebase (s : State) : State :=
  ({ s with arb := { s.arb with base := s.inputBase } } : State).budgetChanged s.budget

def State.setLevel (s : State) (n : Nat) : State :=
  ({ s with arb := { s.arb with level := n } } : State).budgetChanged s.budget

/-! ## Measurements on the voltage samples (5.2) -/

def sagSamples : Nat := spanSamples 500 20
def recoverySamples : Nat := spanSamples 5000 20
def entrySamples : Nat := spanSamples 1000 20
def exitSamples : Nat := spanSamples 5000 20

/-- One voltage sample for the four measurements: each counts the samples that meet its condition (R99 to R102). -/
def State.voltageSample (s : State) : State :=
  let v := s.fe.battery
  let a := s.arb
  { s with arb := { a with
    sagRun := if v < s.volts 1140 && !a.grants.isEmpty then a.sagRun + 1 else 0
    recRun := if s.volts 1220 ≤ v then a.recRun + 1 else 0
    entRun := if v < s.volts 1050 && !a.lowVoltage then a.entRun + 1 else 0
    exitRun := if s.volts 1180 ≤ v && a.lowVoltage then a.exitRun + 1 else 0 } }

/-- The end of an event that may have ended operations: the walk owed, then the stance (R112, R113, R155). -/
def State.settled (before after : State) : State := (before.walkAfter after).restance

end Sys2Proof.Machine
end

