-- ==== Sys2Proof/Machine/Answer.lean ====
section
/-!
DEFINITION. What a request is answered with (R170) and the codes of 9.4 that replies carry.
-/

namespace Sys2Proof.Machine

open Sys2Proof

/-- The reasons of NOT_PERMITTED (9.4). -/
inductive NotPermitted where
  | parkBrake | ignitionOff | ignitionOn | lockout | lowVoltage | frozen | workMode | positionUnsure | windLockout
  | tooSteep | sensorFault | notIdle | awningOut
  deriving DecidableEq, Repr

/-- The answer of a request's owner or of the link port (9.4, R170): an OK carries the fields of its kind. -/
inductive Answer where
  | ok (fields : List Byte)
  | unknownKind
  | badLength
  | badArgument
  | absent
  | busy
  | notPermitted (r : NotPermitted)
  | forbidden (index : Nat)
  | locked
  | circuitFault (c : ChannelId)
  | storeBusy
  deriving DecidableEq, Repr

def NotPermitted.code : NotPermitted → Nat
  | .parkBrake => 1
  | .ignitionOff => 2
  | .ignitionOn => 3
  | .lockout => 4
  | .lowVoltage => 5
  | .frozen => 6
  | .workMode => 7
  | .positionUnsure => 8
  | .windLockout => 9
  | .tooSteep => 10
  | .sensorFault => 11
  | .notIdle => 12
  | .awningOut => 13

/-- The payload of the reply: the status byte and what goes with it (R170). -/
def Answer.payload : Answer → List Byte
  | .ok fields => 0 :: fields
  | .unknownKind => [1]
  | .badLength => [2]
  | .badArgument => [3]
  | .absent => [4]
  | .busy => [5]
  | .notPermitted r => [6, byteOf r.code]
  | .forbidden i => [7, byteOf i]
  | .locked => [8]
  | .circuitFault c => [9, byteOf c.num]
  | .storeBusy => [10]

def Answer.isOk : Answer → Bool
  | .ok _ => true
  | _ => false

/-- The answer of a link port check that failed (R169). -/
def linkAnswer : LinkRefusal → Answer
  | .unknownKind => .unknownKind
  | .badLength => .badLength
  | .badArgument => .badArgument

/-- The first check that fails gives the reply (R23, R55, R83 and the others). -/
def firstFailure (checks : List (Option Answer)) : Option Answer := checks.findSome? id

/-- A check that fails with the answer given when its condition holds. -/
def failsIf (b : Bool) (a : Answer) : Option Answer := if b then some a else none

/-- A refused request has no other effect; one whose checks pass is taken. -/
def judged (s : State) (checks : List (Option Answer)) (taken : Answer × State) : Answer × State :=
  match firstFailure checks with
  | some a => (a, s)
  | none => taken

/-! ## Codes that records carry (9.4) -/

def JackIdle.code : JackIdle → Nat
  | .retracted => 0
  | .down => 1
  | .levelled => 2
  | .drifted => 3

def LevelPhase.code : LevelPhase → Nat
  | .airDump => 0
  | .touchdown => 1
  | .drive => 2
  | .settle => 3
  | .loadCheck => 4

/-- A state byte: the state in the high four bits, the phase in the low four (9.4). -/
def stateByte (st phase : Nat) : Byte := byteOf (16 * st + phase)

/-- The state code of a working state (9.4). -/
def JackWork.code : JackWork → Nat
  | .levelling _ => 4
  | .stowing => 5
  | .jogging => 6

/-- The phase of a working state; 0 where it has none (9.4, notes 12). -/
def JackWork.phase : JackWork → Nat
  | .levelling p => p.code
  | _ => 0

def JackWork.byte (w : JackWork) : Byte := stateByte w.code w.phase

/-- The state byte of JACKS: SUSPENDED carries the remembered phase in its low four bits (9.4, notes 12). -/
def JackState.byte : JackState → Byte
  | .idle i => stateByte i.code 0
  | .work w => w.byte
  | .suspended w => stateByte 7 w.phase
  | .testing _ => stateByte 8 0

/-- The remembered state, 0xFF where there is none (9.4). -/
def JackState.remembered : JackState → Byte
  | .suspended w => w.byte
  | .testing i => stateByte i.code 0
  | _ => 0xFF

def RoomWork.code : RoomWork → Nat
  | .waitSupply => 1
  | .preparing => 2
  | .moving => 3
  | .settling => 5

def RoomState.code : RoomState → Nat
  | .idle => 0
  | .work w => w.code
  | .suspended _ => 4
  | .testing => 6

def RoomState.remembered : RoomState → Byte
  | .suspended w => stateByte w.code 0
  | _ => 0xFF

def AwningWork.code : AwningWork → Nat
  | .waitSupply => 1
  | .moving => 2
  | .stowing => 4

def AwningState.code : AwningState → Nat
  | .idle => 0
  | .work w => w.code
  | .suspended _ => 3
  | .testing => 5

def AwningState.remembered : AwningState → Byte
  | .suspended w => stateByte w.code 0
  | _ => 0xFF

def Operation.code : Operation → Nat
  | .move => 0
  | .home => 1
  | .jog => 2
  | .levelAuto => 3
  | .levelStow => 4
  | .stow => 5

def Reason.code : Reason → Nat
  | .arrived => 0
  | .limited => 1
  | .hostStop => 2
  | .holdExpired => 3
  | .syncFault => 4
  | .obstruction => 5
  | .timeout => 6
  | .pinFault => 7
  | .watch _ => 8
  | .envelope _ => 9
  | .interlock => 10
  | .lowVoltage => 11
  | .circuitFault _ => 12
  | .sensorFault => 13
  | .noGround => 14
  | .supplyTimeout => 15
  | .airNotDumped => 16
  | .tooSteep => 17
  | .wind => 18

def Reason.watchIndex : Reason → Option Nat
  | .watch i => some i
  | _ => none

def Reason.envelopeIndex : Reason → Option Nat
  | .envelope i => some i
  | _ => none

def Reason.channel : Reason → Option Nat
  | .circuitFault c => some c.num
  | _ => none

def SupplyClass.code : SupplyClass → Nat
  | .stow => 0
  | .levelling => 1
  | .room => 2
  | .awning => 3

def HealthClass.code : HealthClass → Nat
  | .untested => 0
  | .normal => 1
  | .open => 2
  | .short => 3
  | .testFailed => 4

def ChanMode.code : ChanMode → Nat
  | .off => 0
  | .driven .first _ => 1
  | .driven .second _ => 2
  | .testing _ _ => 3

def EndPosition.code : EndPosition → Nat
  | .inn => 0
  | .out => 1
  | .position _ => 2
  | .unknown => 3

/-- The n of a POSITION, absent otherwise. -/
def EndPosition.number : EndPosition → Option Int
  | .position n => some n
  | _ => none

def Target.code : Target → Nat
  | .inn => 0
  | .out => 1
  | .position _ => 2

def Target.number : Target → Option Int
  | .position n => some n
  | _ => none

def LevelOutcome.code : LevelOutcome → Nat
  | .levelled => 0
  | .limited => 1
  | .aborted => 2

def StowCause.code : StowCause → Nat
  | .wind => 1
  | .driveAway => 2

end Sys2Proof.Machine

namespace Sys2Proof

def PinState.code : PinState → Nat
  | .withdrawn => 0
  | .engaged => 1
  | .between => 2
  | .invalid => 3

end Sys2Proof
end

