-- ==== Sys2Proof/Machine/Guard.lean ====
section
/-!
DEFINITION. The motion guard (chapter 6): permits, the work-mode check, the envelope at acceptance and in motion, the
watch units, the freeze set, and the ends the guard asks for.
-/

namespace Sys2Proof.Machine

open Sys2Proof

/-! ## Permits (R118) -/

def State.keyOn (s : State) : Bool := !s.inputs.keyOff.level
def State.ignition (s : State) : Bool := s.inputs.ignition.level
def State.frozen (s : State) (g : Group) : Bool := s.guard.freeze.get g

/-- The permits of a group and direction, in the order of the table; the first that fails names the reason (R118). -/
def State.permitFailure (s : State) (g : Group) (extend : Bool) : Option NotPermitted :=
  let awningOut := decide (g = .awning) && extend
  if s.keyOn then some .lockout
  else if s.arb.lowVoltage then some .lowVoltage
  else if s.frozen g then some .frozen
  else if s.brakeReleased && (decide (g ≠ .awning) || extend) then some .parkBrake
  else if !s.ignition && decide (g = .jacks) then some .ignitionOff
  else if s.ignition && awningOut then some .ignitionOn
  else if s.wind.lockout && awningOut then some .windLockout
  else none

def State.permitCheck (s : State) (g : Group) (extend : Bool) : Option Answer :=
  (s.permitFailure g extend).map .notPermitted

/-- JACKS asks for JACK_WORK; ROOM_WORK refuses it (R121). -/
def State.jackWorkCheck (s : State) : Option Answer := failsIf s.guard.anyRoomWork (.notPermitted .workMode)

/-- A room asks to join ROOM_WORK; JACK_WORK refuses it (R121). -/
def State.roomWorkCheck (s : State) : Option Answer := failsIf s.guard.jackWork (.notPermitted .workMode)

/-- The lowest unusable channel of those the operation would drive, listed in number order (R147). -/
def State.channelCheck (s : State) (l : List ChannelId) : Option Answer := (l.find? fun c => !s.usable c).map .circuitFault

/-! ## The envelope (R123 to R125) -/

/-- The entry's direction is BOTH or one of the directions of the move. -/
def directionMatches (d : Direction) (extend retract : Bool) : Bool :=
  match d with
  | .extend => extend
  | .retract => retract
  | .both => extend || retract

/-- An entry matches a move (R123). -/
def State.entryMatches (s : State) (e : EnvEntry) (g : Group) (extend retract : Bool) : Bool :=
  e.contents.enabled && decide (e.contents.subject = g) && s.straps.hasGroup e.contents.subject
    && e.contents.source.isPresent s.straps && directionMatches e.contents.direction extend retract
    && s.condHolds e.contents

/-- The lowest-indexed entry that matches a request (R124). -/
def State.envelopeCheck (s : State) (g : Group) (extend retract : Bool) : Option Answer :=
  (s.guard.envelope.findIdx? fun e => s.entryMatches e g extend retract).map .forbidden

/-- The directions in which a channel is driven (R125). -/
def State.drivenOut (s : State) (c : ChannelId) : Bool := decide ((s.chan c).drivenDir = some .first)
def State.drivenIn (s : State) (c : ChannelId) : Bool := decide ((s.chan c).drivenDir = some .second)

/-- The motion channels of a group; a stow of the awning is no motion here (R125). -/
def State.motionChannels (s : State) : Group → List ChannelId
  | .jacks => JackId.all.map .valve
  | .room r => [.drive r .fore, .drive r .aft]
  | .awning => if s.aw.stowing then [] else [.awning]

/-- The lowest entry that matches a moving group among those whose source gives a new sample (R125). -/
def State.motionMatch (s : State) (f : Fresh) (g : Group) : Option Nat :=
  let ext := (s.motionChannels g).any s.drivenOut
  let ret := (s.motionChannels g).any s.drivenIn
  s.guard.envelope.findIdx? fun e => f.env e.contents.source && s.entryMatches e g ext ret

/-! ## Ends by the guard -/

/-- The owning controller ends its operation, if one is in progress, a stow included (R38, R74, R87). -/
def State.endGroup (s : State) (g : Group) (reason : Reason) : State :=
  match g with
  | .jacks => s.endJacks reason
  | .room r => s.endRoom r reason
  | .awning => s.endAwning reason

/-- The same, but a stow is not ended (R119, R120, R101, R76). -/
def State.endMove (s : State) (g : Group) (reason : Reason) : State :=
  match g with
  | .awning => if s.aw.moving then s.endAwning reason else s
  | _ => s.endGroup g reason

/-- The ends of several groups, in the order of the groups, and then the walk they owe (R112, R113, notes 8). -/
def State.endMoves (s : State) (gs : List Group) (reason : Reason) : State :=
  s.settled (gs.foldl (fun t g => t.endMove g reason) s)

/-- An awning MOVE or HOME in the EXTEND direction is in progress (R119). -/
def State.awningExtending (s : State) : Bool := s.aw.moving && s.aw.extend

/-- A moving group whose entry matches ends with ENVELOPE and the lowest index (R125). -/
def State.envelopeGroup (f : Fresh) (s : State) (g : Group) : State :=
  match s.motionMatch f g with
  | some i => s.settled (s.endGroup g (.envelope i))
  | none => s

/-- The envelope at one set of new samples, for every present group that moves (R125): in group order, each end with its
walk, so that a group the walk sets going is checked too (DESIGN CHOICE, notes 41). -/
def State.envelopeSample (s : State) (f : Fresh) : State := s.presentGroups.foldl (State.envelopeGroup f) s

/-! ## Freeze and watches (R129 to R132) -/

/-- The owning controller suspends its operation with FREEZE (R37, R72, R88, R96). -/
def State.freezeOp (s : State) : Group → State
  | .jacks => s.freezeJacks
  | .room r => s.freezeRoom r
  | .awning => s.freezeAwning

/-- A group joins the freeze set once (R132). -/
def State.freezeGroup (s : State) (g : Group) : State :=
  if s.frozen g then s
  else (({ s with guard := { s.guard with freeze := s.guard.freeze.set g true } } : State).freezeOp g)

def State.freezeAll (s : State) : State := (s.presentGroups.foldl State.freezeGroup s).restance

def State.setHit (s : State) (i : Nat) (u : WatchUnit) (b : Bool) : State :=
  { s with guard := { s.guard with watches := s.guard.watches.set i { u with hit := b } } }

/-- A unit fires: hit, SUPERVISION, action, in one event (R130 to R132). -/
def State.fireWatch (s : State) (i : Nat) (u : WatchUnit) : State :=
  match u.contents.action with
  | .stopGroup g =>
    let s1 := (s.setHit i u true).joinSupervision SupCauses.addWatch
    s1.settled (s1.endGroup g (.watch i))
  | .freezeAll => ((s.setHit i u true).joinSupervision SupCauses.addFreeze).freezeAll

def actionPresent (t : Straps) : WatchAction → Bool
  | .stopGroup g => t.hasGroup g
  | .freezeAll => true

/-- A unit fires on a new sample of its source: enabled, hit clear, nothing absent, its condition holding of the value that
the event brought, as it stood in `brought`, whatever has been done since (R130, R131, R135, R143). -/
def State.unitFires (s brought : State) (f : Fresh) (u : WatchUnit) : Bool :=
  let c := u.contents
  c.enabled && !u.hit && f.watch c.source && c.source.isPresent s.straps && actionPresent s.straps c.action
    && (match brought.watchValue c.source with
      | some v => inWindow c.low c.high c.outside v
      | none => false)

def State.watchUnit (brought : State) (f : Fresh) (s : State) (i : Nat) : State :=
  match s.guard.watches[i]? with
  | some u => if s.unitFires brought f u then s.fireWatch i u else s
  | none => s

/-- The units in index order, each acting before the next is evaluated, on the values that the event brought (R130). -/
def State.watchSample (s brought : State) (f : Fresh) : State := [0, 1, 2, 3].foldl (State.watchUnit brought f) s

end Sys2Proof.Machine
end

