-- ==== Sys2Proof/Machine/Stow.lean ====
section
/-!
DEFINITION. The awning's stows (4.7): their beginning, the pending stow, and what makes a wind stow or a drive-away stow
due.
-/

namespace Sys2Proof.Machine

open Sys2Proof

/-- A stow begins (R94): settings captured, run time cleared, a STOW grant in the same event, then STOWING. -/
def State.beginStow (s : State) (c : StowCause) : State :=
  let s1 := (s.clearPeaks .awning).modAw fun a => { a with
    st := .work .stowing, op := .stow, target := .inn, extend := false, causes := .none, stowCause := some c
    pendingStow := none, cap := s.awningCapture, waitLeft := none, suspLeft := none, runMs := 0 }
  (s1.settled (s1.requestStow s1.aw.cap.draw).enterStowing)

def State.setPending (s : State) (p : Option StowCause) : State := s.modAw fun a => { a with pendingStow := p }

/-- A due stow is held back by the key or the freeze set (R92). -/
def State.stowHeld (s : State) : Bool := s.keyOn || s.frozen .awning

/-- A pending stow takes WIND; a drive-away stow leaves a pending stow's cause (R92, R93). -/
def State.pendStow (s : State) (c : StowCause) : State :=
  match c, s.aw.pendingStow with
  | .driveAway, some _ => s
  | _, _ => s.setPending (some c)

/-- What a due stow does with no operation in progress (R92, R93): it begins, or becomes pending while it is held back or
under test. With channel 19 unusable a drive-away stow becomes pending; a wind stow only marks a stow already pending. -/
def State.stowIdle (s : State) (c : StowCause) : State :=
  if s.stowHeld then s.pendStow c
  else if s.usable .awning then s.beginStow c
  else if c = .driveAway || s.aw.pendingStow.isSome then s.pendStow c
  else s

/-- The reason with which a due stow ends a MOVE or HOME (R92, R93). -/
def StowCause.endReason : StowCause → Reason
  | .wind => .wind
  | .driveAway => .interlock

/-- A stow already running or suspended takes the cause WIND, and keeps its cause otherwise (R92, R93). -/
def State.recauseStow (s : State) (c : StowCause) : State :=
  match c with
  | .wind => s.modAw fun a => { a with stowCause := some .wind }
  | .driveAway => s

/-- A stow is due (R92, R93): by the awning's state. -/
def State.stowDue (s : State) (c : StowCause) : State :=
  if s.aw.stowing then s.recauseStow c
  else if s.aw.moving then (s.settled (s.endAwning c.endReason)).stowIdle c
  else
    match s.aw.st with
    | .testing => s.pendStow c
    | _ => s.stowIdle c

/-- A change that makes a drive-away stow due while the awning is not stowed (R93). -/
def State.driveAway (s : State) : State := if s.straps.awning && !s.stowed then s.stowDue .driveAway else s

/-- The check at start-up and on waking (R93). -/
def State.driveAwayCheck (s : State) : State := if s.ignition || s.brakeReleased then s.driveAway else s

/-- A pending stow is taken up (R95). -/
def State.takeUpStow (s : State) : State :=
  match s.aw.pendingStow with
  | none => s
  | some c =>
    if !s.stowHeld && decide (s.aw.st = .idle) && s.usable .awning then
      if s.stowed then s.setPending none else s.beginStow c
    else s

/-- The lockout key ends a running or suspended stow and makes it pending with its cause (R95). -/
def State.keyEndsStow (s : State) : State :=
  if s.aw.stowing then (s.settled (s.endAwning .interlock)).setPending s.aw.stowCause else s

end Sys2Proof.Machine
end

