-- ==== Sys2Proof/Machine/JackReq.lean ====
section
/-!
DEFINITION. The requests of the levelling engine: LEVEL AUTO (R23, R24), LEVEL STOW (R45), a jog (R47), and the entry to
TOUCHDOWN (R25, R26).
-/

namespace Sys2Proof.Machine

open Sys2Proof

/-- The pump grant is asked for; a request that waits starts the supply wait bound (R26). -/
def State.askPump (s : State) : State :=
  let s1 := s.requestSupply .jacks .levelling s.jk.cap.draw
  if s1.waits .jacks then { s1 with jk := { s1.jk with waitLeft := some jackBound } } else s1

/-- TOUCHDOWN is entered (R25, R26). -/
def State.enterTouchdown (s : State) : State :=
  ({ s with jk := { s.jk with st := .work (.levelling .touchdown), airLeft := none } } : State).askPump

/-- AIR_DUMP ends at once while the air-dumped input is true (R25, R40). -/
def State.airDumpIfReady (s : State) : State :=
  if s.jk.st = .work (.levelling .airDump) && s.inputs.airDumped.level then s.enterTouchdown else s

/-! ## Checks -/

def State.jackBusy (s : State) : Option Answer := failsIf (!s.jk.st.isIdle) .busy

def State.jackFaultCheck (s : State) : Option Answer := failsIf s.anyJackFault (.notPermitted .sensorFault)

/-- The pump and the valves of the present jacks, in number order. -/
def State.levelChannels (s : State) : List ChannelId := .pump :: s.presentJacks.map .valve

/-- The steepness check is made at acceptance while the filter is full (R23 step 7). -/
def State.steepCheck (s : State) : Option Answer :=
  failsIf (s.filterFull && !s.tiltWithin s.store.active.level.steepness) (.notPermitted .tooSteep)

/-! ## Taking an operation -/

/-- What every JACKS operation does when it is taken: capture, claim, drift timer cancelled, peaks restarted (R24, R45,
R47, R143). -/
def State.takeJacks (s : State) (w : JackWork) : State :=
  let s1 := (s.clearPeaks .jacks).claimJacks
  { s1 with jk := { s1.jk with
    st := .work w, causes := .none, lapsed := false, cap := s.jackCapture, jog := none, holdLeft := none
    resumeLeft := none, airLeft := none, waitLeft := none, suspLeft := none, settleLeft := none, stepLeft := none
    driftLeft := none, driftWait := false, runMs := 0 } }

/-- The run of a LEVEL AUTO starts clear (R24). -/
def Levelling.clearRun (j : Levelling) (steepDone : Bool) : Levelling :=
  { j with
    passes := 0, tdStarted := false, tdDone := false, steepDone := steepDone, touch := .all none, baseUsed := 0
    clamped := .all false, light := .all false, noGround := .all false, station := none, doneFront := false
    doneMiddle := false, doneRear := false, tiltWait := false, lightList := [], step := none }

/-- The first phase: AIR_DUMP with the air suspension present, else TOUCHDOWN (R24, R25). -/
def State.startLevel (s : State) : State :=
  let s0 := s.takeJacks (.levelling .airDump)
  let s1 := { s0 with jk := s0.jk.clearRun s.filterFull }
  if s1.straps.airsusp then
    let s2 := s1.assertDump
    ({ s2 with jk := { s2.jk with airLeft := some airDumpMs } } : State).airDumpIfReady
  else s1.enterTouchdown

/-- LEVEL mode 0 (R23, R24). -/
def State.onLevelAuto (s : State) : Answer × State :=
  judged s
    [s.jackBusy, s.jackFaultCheck, s.channelCheck s.levelChannels, s.permitCheck .jacks true, s.jackWorkCheck,
      s.envelopeCheck .jacks true true, s.steepCheck]
    (.ok [], s.settled s.startLevel)

/-- LEVEL STOW of a retracted group arrives at once (R45): a stop record of the moment, nothing asked for. -/
def State.stowAtOnce (s : State) : State :=
  s.recordEnd .jacks { op := .levelStow, reason := .arrived, positions := s.strokeRecord, runMs := 0, peak := 0 }

/-- LEVEL mode 1 (R45). -/
def State.onLevelStow (s : State) : Answer × State :=
  judged s
    [s.jackBusy, s.jackFaultCheck, s.channelCheck s.levelChannels, s.permitCheck .jacks true, s.jackWorkCheck,
      s.envelopeCheck .jacks false true]
    (.ok [], s.settled (if s.jk.st = .idle .retracted then s.stowAtOnce else (s.takeJacks .stowing).askPump))

/-! ## The jog (R47) -/

/-- A clamp byte and the value used (R170). -/
def clampFields (asked used : Int) : List Byte := byteOf (if asked = used then 0 else 1) :: bytes2 used

/-- The target of a jog within 0 to S (R47 step 2). -/
def State.jogTarget (s : State) (v : Half) : Int := clampInt 0 s.store.active.geometry.strokeMax v.toInt

/-- A jog extends when its target is above the jack's stroke (R47 step 8). -/
def State.jogExtends (s : State) (j : JackId) (v : Half) : Bool := decide (s.strokeD j < s.jogTarget v)

/-- The jog is taken (R47): JOGGING, hold timer, run time 0, DUMP_REQ for an extension. -/
def State.startJog (s : State) (j : JackId) (v : Half) : State :=
  let s0 := s.takeJacks .jogging
  let s1 := { s0 with jk := { s0.jk with
    jog := some { jack := j, target := s.jogTarget v, runMs := 0 }, holdLeft := some s0.jk.cap.holdLapse } }
  (if s.jogExtends j v then s1.assertDump else s1).askPump

/-- A MOVE naming a jack (R47). -/
def State.onJog (s : State) (j : JackId) (v : Half) : Answer × State :=
  judged s
    [failsIf (!s.straps.hasJack j) .absent, s.jackBusy, s.jackFaultCheck, s.channelCheck [.pump, .valve j],
      s.permitCheck .jacks true, s.jackWorkCheck,
      s.envelopeCheck .jacks (s.jogExtends j v) (!s.jogExtends j v)]
    (.ok (clampFields v.toInt (s.jogTarget v)), s.settled (s.startJog j v))

end Sys2Proof.Machine
end

