-- ==== Sys2Proof/Machine/RoomReq.lean ====
section
/-!
DEFINITION. The requests of the room controllers and of the awning controller: MOVE and HOME (R55, R56, R77, R83, R84,
R89).
-/

namespace Sys2Proof.Machine

open Sys2Proof

/-! ## Rooms -/

def roomChannels (r : RoomId) : List ChannelId := [.drive r .fore, .drive r .aft, .pin r]

def State.roomBusy (s : State) (r : RoomId) : Option Answer := failsIf (decide ((s.room r).st ≠ .idle)) .busy

/-- The position used: n within 0 to the travel (R55, R83). -/
def clampTravel (travel : Int) (v : Half) : Int := clampInt 0 travel v.toInt

/-- The target of a MOVE (R55, R83). -/
def moveTarget (e : EndCode) (n : Int) : Target :=
  match e with
  | .inn => .inn
  | .out => .out
  | .position => .position n

/-- The direction of a MOVE is EXTEND (R55, R83): `count` is the fore count or the awning count. -/
def moveExtends (e : EndCode) (n count : Int) : Bool :=
  match e with
  | .inn => false
  | .out => true
  | .position => decide (count < n)

/-- The fields of an OK reply to a MOVE: no clamp and value 0 for IN and OUT (9.5, R170). -/
def moveFields (e : EndCode) (v : Half) (n : Int) : List Byte :=
  match e with
  | .position => clampFields v.toInt n
  | _ => clampFields 0 0

/-- Both in-stops MADE and the pin ENGAGED (R56, R77). -/
def State.inAndLocked (s : State) (r : RoomId) : Bool := (s.sense r).bothIn && decide ((s.sense r).pin = .engaged)

/-- What every room operation does when it is taken and does not arrive at once (R56). -/
def State.takeRoom (s : State) (r : RoomId) (home : Bool) (t : Target) : State :=
  let s1 := (s.clearPeaks (.room r)).claimRoom r
  let cap := s.roomCapture r
  s1.setRoom r { s1.room r with
    st := .work .waitSupply, home := home, target := t, causes := .none, lapsed := false, cap := cap
    foreStopped := false, aftStopped := false, holdLeft := some cap.run.holdLapse.toNat, resumeLeft := none
    pinLeft := none, ctrlLeft := none, runMs := 0 }

/-- An arrival at once: no grant and no claim; a Home also zeroes the counts and makes the room known (R56, R77), and its
record holds the counts after the zeroing (DESIGN CHOICE, notes 33). -/
def State.roomAtOnce (s : State) (r : RoomId) (home : Bool) : State :=
  let s1 := if home then s.zeroRoom r else s
  let x := s1.room r
  let s2 := s1.setRoom r { x with known := home || x.known, endPos := .inn }
  (s2.recordEnd (.room r)
    { op := if home then .home else .move, reason := .arrived, positions := s2.roomPositions r, runMs := 0
      peak := 0 }).roomEnded

/-- The move or Home is taken (R56, R77). -/
def State.startRoom (s : State) (r : RoomId) (home : Bool) (t : Target) : State :=
  if t = .inn && s.inAndLocked r then s.roomAtOnce r home
  else
    let s1 := s.takeRoom r home t
    s1.requestSupply (.room r) .room (s1.room r).cap.draw

/-- The checks from step 4 on (R55, R77). -/
def State.roomChecks (s : State) (r : RoomId) (extend : Bool) : List (Option Answer) :=
  [s.channelCheck (roomChannels r), s.permitCheck (.room r) extend, s.roomWorkCheck,
    s.envelopeCheck (.room r) extend (!extend)]

/-- A MOVE naming a room (R55, R56): IN on an unsure room is taken as a HOME (R77). -/
def State.onRoomMove (s : State) (r : RoomId) (e : EndCode) (v : Half) : Answer × State :=
  let n := clampTravel (s.store.active.roomCal.get r).travel v
  let ext := moveExtends e n (s.sense r).fore.live
  let home := decide (e = .inn) && !(s.room r).known
  judged s
    ([failsIf (!s.straps.hasRoom r) .absent, s.roomBusy r,
        failsIf (!(s.room r).known && decide (e ≠ .inn)) (.notPermitted .positionUnsure)] ++ s.roomChecks r ext)
    (.ok (moveFields e v n), s.settled (s.startRoom r home (moveTarget e n)))

/-- A HOME naming a room (R77). -/
def State.onRoomHome (s : State) (r : RoomId) : Answer × State :=
  judged s
    ([failsIf (!s.straps.hasRoom r) .absent, s.roomBusy r] ++ s.roomChecks r false)
    (.ok [], s.settled (s.startRoom r true .inn))

/-! ## The awning -/

def State.awningBusy (s : State) : Option Answer := failsIf (decide (s.aw.st ≠ .idle)) .busy

/-- The move is taken (R84): settings captured, run time cleared, the AWNING grant asked for. -/
def State.takeAwning (s : State) (op : AwningOp) (t : Target) (extend : Bool) : State :=
  (s.clearPeaks .awning).modAw fun a => { a with
    st := .work .waitSupply, op := op, target := t, extend := extend, causes := .none, stowCause := none
    cap := s.awningCapture, waitLeft := none, suspLeft := none, runMs := 0 }

/-- A request that waits starts the supply wait bound (R84). -/
def State.askAwning (s : State) : State :=
  let s1 := s.requestSupply .awning .awning s.aw.cap.draw
  if s1.waits .awning then s1.modAw fun a => { a with waitLeft := some awningBound } else s1

def AwningOp.isHome : AwningOp → Bool
  | .home => true
  | _ => false

/-- An arrival at once at the stowed switch: a Home also zeroes the count and makes the position known (R84, R89), and its
record holds the count after the zeroing (DESIGN CHOICE, notes 33). -/
def State.awningAtOnce (s : State) (op : AwningOp) : State :=
  let s1 := if op.isHome then s.zeroAwning else s
  let s2 := s1.modAw fun a => { a with known := op.isHome || a.known, endPos := .inn }
  s2.recordEnd .awning
    { op := op.operation, reason := .arrived, positions := .awning s2.fe.awningCount.live, runMs := 0, peak := 0 }

def State.startAwning (s : State) (op : AwningOp) (t : Target) (extend : Bool) : State :=
  if t = .inn && s.stowed then s.awningAtOnce op else (s.takeAwning op t extend).askAwning

/-- The checks from step 4 on (R83, R89). -/
def State.awningChecks (s : State) (extend : Bool) : List (Option Answer) :=
  [s.channelCheck [.awning], s.permitCheck .awning extend, s.envelopeCheck .awning extend (!extend)]

/-- A MOVE naming the awning (R83, R84): IN with the position unsure is taken as a HOME (R89). -/
def State.onAwningMove (s : State) (e : EndCode) (v : Half) : Answer × State :=
  let n := clampTravel s.store.active.awningCal.travel v
  let ext := moveExtends e n s.fe.awningCount.live
  let op : AwningOp := if e = .inn && !s.aw.known then .home else .move
  judged s
    ([failsIf (!s.straps.awning) .absent, s.awningBusy,
        failsIf (!s.aw.known && decide (e ≠ .inn)) (.notPermitted .positionUnsure)] ++ s.awningChecks ext)
    (.ok (moveFields e v n), s.settled (s.startAwning op (moveTarget e n) ext))

/-- A HOME naming the awning (R89). -/
def State.onAwningHome (s : State) : Answer × State :=
  judged s
    ([failsIf (!s.straps.awning) .absent, s.awningBusy] ++ s.awningChecks false)
    (.ok [], s.settled (s.startAwning .home .inn false))

/-! ## HOLD, STOP, RESUME -/

/-- A HOLD for one group, with the axes it refreshed (R49, R68, R87). -/
def State.holdGroup (s : State) : Group → Nat × State
  | .jacks => if s.jk.st.isJog then (1, s.holdJog) else (0, s)
  | .room r => if s.roomHoldable r then (1, s.holdRoom r) else (0, s)
  | .awning => (0, s)

def State.namedGroups (s : State) (mask : Byte) : List Group := s.presentGroups.filter (inMask mask)

def holdStep (p : Nat × State) (g : Group) : Nat × State :=
  let q := p.2.holdGroup g
  (p.1 + q.1, p.2.settled q.2)

/-- HOLD (R49, R68): the present groups named, and the axes refreshed over all of them. -/
def State.onHold (s : State) (mask : Byte) : Answer × State :=
  let p := (s.namedGroups mask).foldl holdStep (0, s)
  (.ok [byteOf p.1], p.2)

/-- STOP (R38, R76, R87, R94): a stow is not ended. -/
def State.onStop (s : State) (mask : Byte) : Answer × State :=
  (.ok [], s.endMoves (s.namedGroups mask) .hostStop)

/-- The owning controller takes a resume (R40, R48, R73, R88, R96, R95). -/
def State.unfreezeOp (s : State) (g : Group) : State :=
  match g with
  | .jacks =>
    match s.jk.st.work? with
    | some _ => s.unfreezeJacks.airDumpIfReady
    | none => s
  | .room r =>
    match (s.room r).st.work? with
    | some _ => s.unfreezeRoom r
    | none => s
  | .awning =>
    let s1 :=
      match s.aw.st.work? with
      | some _ => s.unfreezeAwning
      | none => s
    s1.takeUpStow

/-- One group leaves the freeze set, as one event (R137). -/
def State.resumeGroup (s : State) (g : Group) : State :=
  if s.frozen g then
    let s1 : State := { s with guard := { s.guard with freeze := s.guard.freeze.set g false } }
    s1.settled (s1.unfreezeOp g)
  else s

/-- RESUME (R137): the reply carries the groups that left the set. -/
def State.onResume (s : State) (mask : Byte) : Answer × State :=
  let gs := s.namedGroups mask
  let left := (gs.map fun g => bitOf (s.frozen g) (groupBit g)).sum
  (.ok [byteOf left], gs.foldl State.resumeGroup s)

end Sys2Proof.Machine
end

