-- ==== Sys2Proof/Machine/Reports.lean ====
section
/-!
DEFINITION. The records the program reads (9.6) and the requests that only report: READ_GROUP, READ_STOP_RECORD,
READ_LEVEL_RESULT, READ_HEALTH, READ_ENVELOPE, READ_WATCH, IDENTIFY, READ_CAPABILITY, and the status record of
READ_STATUS. Bits and bytes the layouts leave open are fixed in notes 12.
-/

namespace Sys2Proof.Machine

open Sys2Proof

/-! ## Small fields -/

/-- A duty byte of a room record or a health line: 0 on a channel that is not DRIVEN (DESIGN CHOICE, notes 12). -/
def duty1 (c : Channel) : Byte := byteOf c.duty.toNat

/-- The fields of a group's supply: bit 0 holds a grant, bit 1 waits for one. -/
def State.supplyBits (s : State) (g : Group) : Nat := bitOf (s.holds g) 0 + bitOf (s.waits g) 1

def jackMask (p : PerJack Bool) : Nat := (JackId.all.map fun j => bitOf (p.get j) j.num).sum

def natField (o : Option Int) : Option Nat := o.map Int.toNat

/-! ## JACKS record (R18, R50) -/

/-- Stroke and pressure of one jack, absent for an absent jack. -/
def State.jackLine (s : State) (j : JackId) : List Byte :=
  if s.straps.hasJack j then bytes2? (s.stroke j) ++ [byte? (natField (s.jackSense j).pressure)] else [0xFF, 0xFF, 0xFF]

def State.planLine (s : State) (j : JackId) : List Byte :=
  bytes2? (if s.straps.hasJack j then s.jk.plan.map fun p => p.target.get j else none)

def State.driftRunning (s : State) : Bool := s.jk.driftLeft.isSome

def Levelling.passByte (j : Levelling) : Byte := if j.st.isLevelAuto then byteOf j.passes else 0xFF

def State.jogFields (s : State) : List Byte :=
  match s.jk.jog with
  | some g => byteOf g.jack.num :: (bytes2 g.target ++ bytes2 g.runMs)
  | none => [0xFF, 0xFF, 0xFF, 0xFF, 0xFF]

def State.jacksRecord (s : State) : List Byte :=
  [s.jk.st.byte, s.jk.passByte, causesByte s.jk.causes s.jk.lapsed, s.jk.st.remembered,
    byteOf (bitOf s.filterFull 0 + bitOf s.driftRunning 1 + bitOf s.jk.dumpReq 2 + bitOf s.jk.plan.isSome 3
      + 16 * s.supplyBits .jacks)]
  ++ bytes2 s.fe.pitch ++ bytes2 s.fe.roll ++ JackId.all.flatMap s.jackLine
  ++ [byteOf (jackMask (.tab fun j => s.straps.hasJack j && (s.jackSense j).fault))]
  ++ JackId.all.flatMap s.planLine
  ++ [byteOf (jackMask (.tab fun j => (s.jk.plan.map fun p => p.clamped.get j).getD false))]
  ++ s.jogFields

/-! ## Room and awning records (R79, R97) -/

/-- Operation in progress: the operation in the low four bits, the end of its target in the high four (notes 12). -/
def opByte (op : Nat) (t : Target) : Byte := if op = 0 then 0 else byteOf (op + 16 * t.code)

def State.roomOp (s : State) (r : RoomId) : Nat :=
  match (s.room r).st.work? with
  | some _ => if (s.room r).home then 2 else 1
  | none => 0

def roomSwitches (q : RoomSense) : Byte := byteOf (bitOf q.foreIn.reads 0 + bitOf q.aftIn.reads 1 + 4 * q.pin.code)

def State.roomRecord (s : State) (r : RoomId) : List Byte :=
  let x := s.room r
  let q := s.sense r
  let op := s.roomOp r
  [stateByte x.st.code 0, opByte op x.target] ++ bytes2? (if op = 0 then none else x.target.number)
  ++ [causesByte x.causes x.lapsed, x.st.remembered,
    byteOf (s.supplyBits (.room r) + bitOf x.known 2 + bitOf x.holdLeft.isSome 3 + bitOf x.resumeLeft.isSome 4
      + bitOf x.foreStopped 5 + bitOf x.aftStopped 6),
    byteOf x.endPos.code]
  ++ bytes2? x.endPos.number ++ [duty1 (s.chan (.drive r .fore)), duty1 (s.chan (.drive r .aft))]
  ++ bytes4 x.runMs ++ bytes2 q.fore.live ++ bytes2 q.aft.live ++ [roomSwitches q]

def State.awningOp (s : State) : Nat :=
  match s.aw.st.work?, s.aw.op with
  | none, _ => 0
  | some _, .move => 1
  | some _, .home => 2
  | some _, .stow => 3

def stowCode : Option StowCause → Nat
  | none => 0
  | some c => c.code

/-- The wait bound runs while the request waits, the suspension bound while SUPPLY is in the set, both only without
FREEZE (R84, R88). -/
def Awning.boundRuns (a : Awning) : Bool := (a.waitLeft.isSome || a.suspLeft.isSome) && !a.causes.freeze

def State.awningRecord (s : State) : List Byte :=
  let a := s.aw
  let op := s.awningOp
  [stateByte a.st.code 0, opByte op a.target] ++ bytes2? (if op = 0 then none else a.targetCount)
  ++ [causesByte a.causes false, a.st.remembered,
    byteOf (s.supplyBits .awning + bitOf a.known 2 + bitOf a.boundRuns 3 + bitOf s.stowed 4),
    byteOf (stowCode a.stowCause + 4 * stowCode a.pendingStow), byteOf a.endPos.code]
  ++ bytes2? a.endPos.number ++ bytes4 a.runMs ++ bytes2 s.fe.awningCount.live

def State.groupRecord (s : State) : Group → List Byte
  | .jacks => s.jacksRecord
  | .room r => s.roomRecord r
  | .awning => s.awningRecord

/-- A request naming one group: ABSENT, or the record (R2, R18). -/
def State.onReadGroup (s : State) (g : Group) : Answer × State :=
  judged s [failsIf (!s.straps.hasGroup g) .absent] (.ok (s.groupRecord g), s)

/-! ## Stop record (R161, R163) -/

def positionBytes : Positions → List Byte
  | .strokes p => JackId.all.flatMap fun j => bytes2? (p.get j)
  | .room f a => bytes2 f ++ bytes2 a
  | .awning n => bytes2 n

def StopRecord.bytes (e : StopRecord) : List Byte :=
  [1, byteOf e.op.code, if e.reason = .arrived then 0 else 1, byteOf e.reason.code] ++ bytes4 e.runMs ++ bytes2 e.peak
  ++ [byte? e.reason.watchIndex, byte? e.reason.envelopeIndex, byte? e.reason.channel] ++ positionBytes e.positions

/-- The record of a group, or the byte that reports it absent (9.6). -/
def recordBytes : Option StopRecord → List Byte
  | some e => e.bytes
  | none => [0]

def State.onReadStopRecord (s : State) (g : Group) : Answer × State :=
  judged s [failsIf (!s.straps.hasGroup g) .absent] (.ok (recordBytes (s.sa.records.get g)), s)

/-! ## Level result (R41, R173) -/

def LevelResult.summary (r : LevelResult) : List Byte :=
  [1, 0, byteOf r.outcome.code, byte? (r.abort.map Reason.code), byteOf r.passes] ++ bytes2 r.pitch ++ bytes2 r.roll
  ++ [byteOf r.baseLift.toNat, byteOf (jackMask r.clamped), byteOf (jackMask r.light), byteOf (jackMask r.noGround)]

def LevelResult.jackLine (r : LevelResult) (j : JackId) : List Byte :=
  bytes2? (r.touch.get j) ++ bytes2? (r.target.get j) ++ bytes2? (r.stroke.get j) ++ [byte? (natField (r.pressure.get j))]

def LevelResult.perJack (r : LevelResult) : List Byte := [1, 1] ++ JackId.all.flatMap r.jackLine

/-- An absent record is its present byte alone, 0 (notes 12). -/
def State.onReadLevelResult (s : State) (p : LevelPart) : Answer × State :=
  match s.jk.result, p with
  | none, _ => (.ok [0], s)
  | some r, .summary => (.ok r.summary, s)
  | some r, .perJack => (.ok r.perJack, s)

/-! ## Health (R147, R153, R173) -/

def lastTestCode : Option HealthClass → Nat
  | some c => c.code
  | none => 7

/-- One line of 7 bytes; an absent channel reads absent throughout, with mode 4 (9.4, notes 12). -/
def State.healthLine (s : State) (c : ChannelId) : List Byte :=
  if s.straps.hasChannel c then
    let h := s.health.get c
    let x := s.chan c
    [byteOf (h.result.code + 8 * lastTestCode h.lastTest + bitOf h.resistance.isSome 6)]
    ++ bytes2? (h.resistance.map fun n => (n : Int)) ++ [byteOf x.mode.code, duty1 x] ++ bytes2 ((x.reading / 100 : Nat) : Int)
  else [0xFF, 0xFF, 0xFF, 4, 0xFF, 0xFF, 0xFF]

/-- The channels of one reply: the count clamped into 1 to 10, up to channel 19 and to the sixth line (R153, R173). -/
def healthChannels (first : ChannelId) (count : Byte) : List ChannelId :=
  ((ChannelId.all.drop first.num).take (max 1 (min 10 count.toNat))).take 6

def State.onReadHealth (s : State) (first : ChannelId) (count : Byte) : Answer × State :=
  let cs := healthChannels first count
  (.ok ([byteOf first.num, byteOf cs.length] ++ cs.flatMap s.healthLine), s)

/-! ## Envelope entries and watch units (R126, R134, 9.6) -/

/-- An index is clipped to the last of its table (R126, R134). -/
def clipIndex (last : Nat) (i : Byte) : Nat := min last i.toNat

def State.envelopeEntry (s : State) (i : Nat) : List Byte :=
  match s.guard.envelope[i]? with
  | some e =>
    let c := e.contents
    [byteOf i,
      byteOf (bitOf c.enabled 0 + bitOf c.outside 1 + 4 * c.direction.code + bitOf e.locked 4
        + bitOf (c.source.isPresent s.straps && s.condHolds c) 5),
      byteOf c.subject.code, byteOf c.source.code.1, byteOf c.source.code.2] ++ bytes2 c.low.toInt ++ bytes2 c.high.toInt
  | none => []

def State.onReadEnvelope (s : State) (i : Byte) : Answer × State := (.ok (s.envelopeEntry (clipIndex 15 i)), s)

def State.watchEntry (s : State) (i : Nat) : List Byte :=
  match s.guard.watches[i]? with
  | some u =>
    let c := u.contents
    [byteOf i, byteOf (bitOf c.enabled 0 + bitOf c.outside 1 + bitOf c.action.isFreeze 2 + bitOf u.hit 3),
      byteOf c.source.code.1, byteOf c.source.code.2] ++ bytes2 c.low.toInt ++ bytes2 c.high.toInt
    ++ [byteOf c.action.groupCode]
  | none => []

def State.onReadWatch (s : State) (i : Byte) : Answer × State := (.ok (s.watchEntry (clipIndex 3 i)), s)

/-! ## Status record (R16, R116, R139, R153, R163) -/

def State.stanceByte (s : State) : Byte :=
  let t := s.sa.stance
  byteOf (bitOf t.jacksDown 0 + bitOf t.awningOut 1 + bitOf t.anyMotion 2 + bitOf t.travelReady 3
    + bitOf s.sa.stowedLine 4 + bitOf s.sa.jacksLine 5 + bitOf s.jk.dumpReq 6)

def inputMask (i : Inputs) (f : InputLine → Bool) : Byte :=
  byteOf (bitOf (f i.parkSet) 0 + bitOf (f i.ignition) 1 + bitOf (f i.engine) 2 + bitOf (f i.charging) 3
    + bitOf (f i.airDumped) 4 + bitOf (f i.keyOff) 5)

def State.claimByte (s : State) : Byte :=
  let rooms := (RoomId.all.map fun r => bitOf (s.guard.roomWork.get r) (r.num + 2)).sum
  byteOf ((if s.guard.jackWork then 1 else if s.guard.anyRoomWork then 2 else 0) + rooms)

/-- Holder in bits 0 to 2, class in bits 3 and 4, waiting in bit 5, suspended-before in bit 6; then the draw. -/
def supplyEntry (g : Group) (c : SupplyClass) (draw : Nat) (waiting before : Bool) : List Byte :=
  byteOf (g.code + 8 * c.code + bitOf waiting 5 + bitOf before 6) :: bytes2 draw

def State.supplyEntries (s : State) : List Byte :=
  (s.arb.grants.flatMap fun e => supplyEntry e.holder e.cls e.draw false false)
  ++ (s.arb.waiting.flatMap fun e => supplyEntry e.holder e.cls e.draw true e.before)

/-- The status record (9.6). With the awning absent there is no wind monitor, and its gust and quiet count are reported as 0
(DESIGN CHOICE, notes 45). -/
def State.statusRecord (s : State) : List Byte :=
  [s.stanceByte, byteOf s.sa.stance.roomsOut, inputMask s.inputs (·.level), inputMask s.inputs (·.latch)]
  ++ bytes2 s.fe.battery ++ [byteOf s.arb.base, byteOf s.arb.level, byteOf s.budget] ++ bytes2 s.grantSum
  ++ [byteOf (bitOf s.arb.lowVoltage 0 + bitOf s.wind.lockout 1 + bitOf s.wind.sustained.isSome 2), s.claimByte,
    byteOf (maskOf s.guard.freeze), s.attentionByte, s.supByte]
  ++ bytes2 s.wind.gust ++ bytes2? s.wind.sustained ++ bytes2 s.wind.quiet
  ++ [byte? (s.test.map fun t => t.chan.num)] ++ bytes2 s.store.defaulted.toNat ++ [byteOf s.entryCount]
  ++ s.supplyEntries

def InputLine.rearmed (l : InputLine) : InputLine := { l with latch := l.level }

def Inputs.rearmed (i : Inputs) : Inputs :=
  { parkSet := i.parkSet.rearmed, ignition := i.ignition.rearmed, engine := i.engine.rearmed
    charging := i.charging.rearmed, airDumped := i.airDumped.rearmed, keyOff := i.keyOff.rearmed }

/-- READ_STATUS reports and then re-arms every latch (R16). -/
def State.onReadStatus (s : State) : Answer × State := (.ok s.statusRecord, { s with inputs := s.inputs.rearmed })

/-! ## Identity and capability (R1, R180, 9.5) -/

def State.strapSummary (s : State) : Byte :=
  let t := s.straps
  byteOf (bitOf t.sixJacks 0 + 2 * t.rooms + bitOf t.awning 4 + bitOf t.supply24 5 + bitOf t.airsusp 6)

def State.onIdentify (s : State) : Answer × State := (.ok [0x0C, 0x41, 0x04, 0x60, 1, s.strapSummary], s)

/-- The 32 bytes of the capability table (R180). -/
def State.capability (s : State) : List Byte :=
  [1, s.strapSummary, 4, 16, 4, 6, 20, 10, byteOf s.store.locks.toNat, 1, 2, 3, 4, 5, 6, 7, 8, 9, 10, 1]
  ++ List.replicate 12 0

/-- Offset modulo 32, count within 1 to 16, bytes beyond the end from the start on (R180). -/
def State.onReadCapability (s : State) (offset count : Byte) : Answer × State :=
  let o := offset.toNat % 32
  let n := max 1 (min 16 count.toNat)
  (.ok ([byteOf o, byteOf n] ++ ((s.capability ++ s.capability).drop o).take n), s)

end Sys2Proof.Machine
end

