-- ==== Sys2Proof/Machine/Service.lean ====
section
/-!
DEFINITION. The settings store (chapter 10), the circuit test (7.5), the guard's table writes (R126, R127, R133, R134),
CLEAR_ATTENTION (R158), the counters (R166), and the requests of power control (R181, R183, R185).
-/

namespace Sys2Proof.Machine

open Sys2Proof

/-! ## Items (R174) -/

def Geometry.item (x : Geometry) (i : Nat) : Option Int :=
  match JackId.ofNum (i / 2), i with
  | some j, _ => some (if i % 2 = 0 then x.x.get j else x.y.get j)
  | none, 12 => some x.strokeMax
  | none, 13 => some x.liftLimit
  | none, _ => none

def RoomCal.item (x : RoomCal) : Nat → Int
  | 0 => x.travel
  | 1 => x.endWindow
  | _ => x.stall

def LevelSet.item (x : LevelSet) : Nat → Option Int
  | 0 => some x.steepness
  | 1 => some x.contact
  | 2 => some x.baseLift
  | 3 => some x.settleMs
  | 4 => some x.band
  | 5 => some x.maxPasses
  | 6 => some x.lightShare
  | _ => none

def RoomRun.item (x : RoomRun) : Nat → Option Int
  | 0 => some x.syncWindow
  | 1 => some x.correction
  | 2 => some x.faultLimit
  | 3 => some x.extendDuty
  | 4 => some x.retractDuty
  | 5 => some x.holdLapse
  | 6 => some x.resumeWindow
  | 7 => some x.timeBudget
  | _ => none

/-- The value of an item; none for an item that R174 does not list. -/
def itemValue (x : Settings) (group item : Nat) : Option Int :=
  match group, item with
  | 0, i => Geometry.item x.geometry i
  | 1, i => (RoomId.ofNum (i / 3)).map fun r => RoomCal.item (x.roomCal.get r) (i % 3)
  | 2, 0 => some x.awningCal.travel
  | 2, 1 => some x.awningCal.pulseFactor
  | 3, 0 => some x.tiltCal.pitch
  | 3, 1 => some x.tiltCal.roll
  | 4, i => LevelSet.item x.level i
  | 5, i => RoomRun.item x.roomRun i
  | 6, 0 => some x.awningRun.sustainedStow
  | 6, 1 => some x.awningRun.gustStow
  | 6, 2 => some x.awningRun.release
  | 6, 3 => some x.awningRun.lockoutTime
  | 7, 0 => some x.supply.pump
  | 7, 1 => some x.supply.room
  | 7, 2 => some x.supply.awning
  | _, _ => none

def Geometry.setItem (x : Geometry) (i : Nat) (v : Int) : Geometry :=
  match JackId.ofNum (i / 2), i with
  | some j, _ => if i % 2 = 0 then { x with x := x.x.set j v } else { x with y := x.y.set j v }
  | none, 12 => { x with strokeMax := v }
  | none, 13 => { x with liftLimit := v }
  | none, _ => x

def RoomCal.setItem (x : RoomCal) (i : Nat) (v : Int) : RoomCal :=
  match i with
  | 0 => { x with travel := v }
  | 1 => { x with endWindow := v }
  | _ => { x with stall := v }

def LevelSet.setItem (x : LevelSet) (i : Nat) (v : Int) : LevelSet :=
  match i with
  | 0 => { x with steepness := v }
  | 1 => { x with contact := v }
  | 2 => { x with baseLift := v }
  | 3 => { x with settleMs := v }
  | 4 => { x with band := v }
  | 5 => { x with maxPasses := v }
  | 6 => { x with lightShare := v }
  | _ => x

def RoomRun.setItem (x : RoomRun) (i : Nat) (v : Int) : RoomRun :=
  match i with
  | 0 => { x with syncWindow := v }
  | 1 => { x with correction := v }
  | 2 => { x with faultLimit := v }
  | 3 => { x with extendDuty := v }
  | 4 => { x with retractDuty := v }
  | 5 => { x with holdLapse := v }
  | 6 => { x with resumeWindow := v }
  | 7 => { x with timeBudget := v }
  | _ => x

/-- The settings with one item at a new value. -/
def setItem (x : Settings) (group item : Nat) (v : Int) : Settings :=
  match group, item with
  | 0, i => { x with geometry := Geometry.setItem x.geometry i v }
  | 1, i =>
    match RoomId.ofNum (i / 3) with
    | some r => { x with roomCal := x.roomCal.set r (RoomCal.setItem (x.roomCal.get r) (i % 3) v) }
    | none => x
  | 2, 0 => { x with awningCal := { x.awningCal with travel := v } }
  | 2, 1 => { x with awningCal := { x.awningCal with pulseFactor := v } }
  | 3, 0 => { x with tiltCal := { x.tiltCal with pitch := v } }
  | 3, 1 => { x with tiltCal := { x.tiltCal with roll := v } }
  | 4, i => { x with level := LevelSet.setItem x.level i v }
  | 5, i => { x with roomRun := RoomRun.setItem x.roomRun i v }
  | 6, 0 => { x with awningRun := { x.awningRun with sustainedStow := v } }
  | 6, 1 => { x with awningRun := { x.awningRun with gustStow := v } }
  | 6, 2 => { x with awningRun := { x.awningRun with release := v } }
  | 6, 3 => { x with awningRun := { x.awningRun with lockoutTime := v } }
  | 7, 0 => { x with supply := { x.supply with pump := v } }
  | 7, 1 => { x with supply := { x.supply with room := v } }
  | 7, 2 => { x with supply := { x.supply with awning := v } }
  | _, _ => x

/-- The range of an item (2.1, 3.1, 4.1, R174). -/
def itemRange (group item : Nat) : Int × Int :=
  match group, item with
  | 0, 12 => (100, 600)
  | 0, 13 => (20, 400)
  | 0, _ => (-9000, 9000)
  | 1, i =>
    match i % 3 with
    | 0 => (200, 4000)
    | 1 => (4, 100)
    | _ => (10, 59)
  | 2, 0 => (200, 4000)
  | 2, _ => (1, 200)
  | 3, _ => (-2500, 2500)
  | 4, 0 => (100, 1999)
  | 4, 1 => (5, 100)
  | 4, 2 => (0, 100)
  | 4, 3 => (500, 10000)
  | 4, 4 => (5, 200)
  | 4, 5 => (1, 9)
  | 4, _ => (10, 90)
  | 5, 0 => (2, 20)
  | 5, 1 => (1, 20)
  | 5, 2 => (21, 200)
  | 5, 3 => (40, 100)
  | 5, 4 => (40, 100)
  | 5, 5 => (150, 1000)
  | 5, 6 => (2, 60)
  | 5, _ => (10, 120)
  | 6, 0 => (20, 300)
  | 6, 1 => (30, 600)
  | 6, 2 => (10, 300)
  | 6, _ => (60, 3600)
  | _, 2 => (1, 40)
  | _, _ => (1, 300)

/-- An item of an absent jack, room or awning does not exist (R174). -/
def itemPresent (t : Straps) (group item : Nat) : Bool :=
  match group, item with
  | 0, i =>
    match JackId.ofNum (i / 2) with
    | some j => t.hasJack j
    | none => true
  | 1, i =>
    match RoomId.ofNum (i / 3) with
    | some r => t.hasRoom r
    | none => true
  | 2, _ => t.awning
  | 6, _ => t.awning
  | 7, 2 => t.awning
  | _, _ => true

def clampItem (group item : Nat) (v : Int) : Int := clampInt (itemRange group item).1 (itemRange group item).2 v

/-! ## Store writes (R175 to R179) -/

def storeMs : Nat := 30

def State.storeBusyCheck (s : State) : Option Answer := failsIf s.store.job.isSome .storeBusy

/-- A calibration group (codes 0 to 3) with its lock cell set. -/
def State.isLocked (s : State) (group : Nat) : Bool := decide (group < 4) && s.store.locks.getLsbD group

def State.startStore (s : State) (j : StoreJob) : State := { s with store := { s.store with job := some (j, storeMs) } }

def setBit10 (x : BitVec 10) (n : Nat) (b : Bool) : BitVec 10 :=
  if b then x ||| BitVec.ofNat 10 (2 ^ n) else x &&& ~~~(BitVec.ofNat 10 (2 ^ n))

/-- A completed write (R175, R177, R178, R179): the stored copy with a valid check value, the active value, the cell. -/
def Store.applied (t : Store) : StoreJob → Store
  | .item g i v =>
    { t with active := setItem t.active g i v, stored := setItem t.stored g i v, checkOk := setBit10 t.checkOk g true }
  | .tables e w =>
    { t with storedEnvelope := e, storedWatches := w, checkOk := setBit10 (setBit10 t.checkOk 8 true) 9 true }
  | .tilt p r =>
    let f (x : Settings) : Settings := { x with tiltCal := { pitch := p, roll := r } }
    { t with active := f t.active, stored := f t.stored, checkOk := setBit10 t.checkOk 3 true }
  | .lock g => { t with locks := t.locks ||| BitVec.ofNat 4 (2 ^ g) }

/-- The write in flight, if there is one, is complete (R175, R176). -/
def Store.completed (t : Store) : Store :=
  match t.job with
  | some p => { t.applied p.1 with job := none }
  | none => t

/-- A write that changes a TILT_CAL offset, and every ZERO_TILT, empties the tilt ring (R6). -/
def State.jobEmptiesRing (s : State) : StoreJob → Bool
  | .item 3 i v => decide (itemValue s.store.active 3 i ≠ some v)
  | .tilt _ _ => true
  | _ => false

def State.emptyRing (s : State) : State := { s with fe := { s.fe with ring := [] } }

def State.onReadSetting (s : State) (group item : Byte) : Answer × State :=
  match itemValue s.store.active group.toNat item.toNat with
  | none => (.badArgument, s)
  | some v => judged s [failsIf (!itemPresent s.straps group.toNat item.toNat) .absent] (.ok (bytes2 v), s)

/-- WRITE_SETTING (R175). -/
def State.onWriteSetting (s : State) (group item : Byte) (v : Half) : Answer × State :=
  let g := group.toNat
  let i := item.toNat
  let used := clampItem g i v.toInt
  match itemValue s.store.active g i with
  | none => (.badArgument, s)
  | some _ =>
    judged s [failsIf (!itemPresent s.straps g i) .absent, s.storeBusyCheck, failsIf (s.isLocked g) .locked]
      (.ok (clampFields v.toInt used), s.startStore (.item g i used))

/-- STORE_TABLES (R177). -/
def State.onStoreTables (s : State) : Answer × State :=
  judged s [s.storeBusyCheck]
    (.ok [], s.startStore (.tables (s.guard.envelope.map (·.contents)) (s.guard.watches.map (·.contents))))

/-- LOCK_CALIBRATION (R179): STORE_BUSY, then the operational groups, then the cell. -/
def State.onLockCalibration (s : State) (group : Byte) : Answer × State :=
  judged s [s.storeBusyCheck, failsIf (decide (4 ≤ group.toNat)) .badArgument]
    (.ok [], if s.isLocked group.toNat then s else s.startStore (.lock group.toNat))

/-- A raw mean: the ring's mean rounded half away from zero, plus the offset in force (R6). -/
def rawMean (sum offset : Int) : Int := divRound sum 16 + offset

def State.rawMeans (s : State) : Int × Int :=
  (rawMean (s.fe.ring.map (·.1)).sum s.store.active.tiltCal.pitch,
    rawMean (s.fe.ring.map (·.2)).sum s.store.active.tiltCal.roll)

/-- ZERO_TILT (R178). -/
def State.onZeroTilt (s : State) : Answer × State :=
  judged s [s.storeBusyCheck, failsIf (s.isLocked 3) .locked, failsIf (!s.filterFull || !s.jk.st.isIdle) .busy]
    (.ok [], s.startStore (.tilt s.rawMeans.1 s.rawMeans.2))

/-! ## Table writes of the guard -/

def State.lockedEntry (s : State) (i : Nat) : Bool :=
  match s.guard.envelope[i]? with
  | some e => e.locked
  | none => false

/-- WRITE_ENVELOPE (R126): ABSENT, LOCKED, the window, the subject's own axis. -/
def State.onWriteEnvelope (s : State) (index : Byte) (c : EnvContents) : Answer × State :=
  let i := clipIndex 15 index
  judged s
    [failsIf (!s.straps.hasGroup c.subject || !c.source.isPresent s.straps) .absent, failsIf (s.lockedEntry i) .locked,
      failsIf (c.source.isPosition && decide (c.high.toInt < c.low.toInt)) .badArgument,
      failsIf (decide (c.source.axisOf = some c.subject)) .badArgument]
    (.ok [byteOf i],
      { s with guard := { s.guard with envelope := s.guard.envelope.set i { contents := c, locked := false } } })

/-- LOCK_ENVELOPE (R127). -/
def State.onLockEnvelope (s : State) (index : Byte) : Answer × State :=
  let i := clipIndex 15 index
  (.ok [byteOf i],
    { s with guard := { s.guard with envelope := s.guard.envelope.modify i fun e => { e with locked := true } } })

/-- WRITE_WATCH (R134). -/
def State.onWriteWatch (s : State) (index : Byte) (c : WatchContents) : Answer × State :=
  let i := clipIndex 3 index
  judged s
    [failsIf (!c.source.isPresent s.straps || !actionPresent s.straps c.action) .absent,
      failsIf (decide (c.high.toInt < c.low.toInt)) .badArgument]
    (.ok [byteOf i],
      { s with guard := { s.guard with watches := s.guard.watches.set i { contents := c, hit := false } } })

def clearHits (mask : Byte) (l : List WatchUnit) : List WatchUnit :=
  l.mapIdx fun i u => if mask.getLsbD i then { u with hit := false } else u

/-- CLEAR_WATCH_HITS (R133). -/
def State.onClearWatchHits (s : State) (mask : Byte) : Answer × State :=
  (.ok [], { s with guard := { s.guard with watches := clearHits mask s.guard.watches } })

/-! ## Attention (R158) and counters (R166) -/

/-- CLEAR_ATTENTION (R158): the elements named leave, SUPERVISION with all its causes. -/
def State.cleared (s : State) (mask : Byte) : State :=
  let sup := s.sa.supervision && !mask.getLsbD 6
  { s with sa := { s.sa with
    groups := .tab fun g => s.sa.groups.get g && !inMask mask g
    supervision := sup
    causes := if sup then s.sa.causes else .none } }

def State.onClearAttention (s : State) (mask : Byte) : Answer × State :=
  let t := s.cleared mask
  (.ok [t.attentionByte, t.supByte], t)

/-- READ_COUNTERS (R166): framing, check, overflow, and all three start again from 0. -/
def State.onReadCounters (s : State) : Answer × State :=
  (.ok (bytes2 s.link.framing ++ bytes2 s.link.check ++ bytes2 s.link.overflow),
    { s with link := { s.link with framing := 0, check := 0, overflow := 0 } })

/-! ## The circuit test (R149 to R152) -/

def testMs : Nat := 200

/-- The owning group enters TESTING (R149). -/
def State.enterTesting (s : State) : Group → State
  | .jacks =>
    match s.jk.st with
    | .idle i => { s with jk := { s.jk with st := .testing i } }
    | _ => s
  | .room r => s.setRoom r { s.room r with st := .testing }
  | .awning => s.modAw fun a => { a with st := .testing }

/-- The owning group leaves TESTING (R152). -/
def State.leaveTesting (s : State) : Group → State
  | .jacks =>
    match s.jk.st with
    | .testing i => { s with jk := { s.jk with st := .idle i } }
    | _ => s
  | .room r => if (s.room r).st = .testing then s.setRoom r { s.room r with st := .idle } else s
  | .awning => if s.aw.st = .testing then s.modAw fun a => { a with st := .idle } else s

/-- The test source feeds the channel: the test current of its class, in its first direction (R140, R149). Until reading A
the latest reading is 0 (DESIGN CHOICE, notes 37). -/
def Channel.underTest (x : Channel) (c : ChannelId) : Channel := { x.turnedOff with mode := .testing .first c.testCurrent }

/-- The test begins (R149). -/
def State.startTest (s : State) (c : ChannelId) : State :=
  let s1 := (s.enterTesting c.owner).setChan c ((s.chan c).underTest c)
  ({ s1 with test := some { chan := c, left := testMs, readingA := none } } : State).restance

/-- CIRCUIT_TEST (R149). -/
def State.onCircuitTest (s : State) (c : ChannelId) : Answer × State :=
  judged s
    [failsIf (!s.straps.hasChannel c) .absent, failsIf (!s.groupIdle c.owner || s.test.isSome) .busy,
      failsIf (s.frozen c.owner) (.notPermitted .frozen), failsIf s.brakeReleased (.notPermitted .parkBrake)]
    (.ok [], s.startTest c)

/-- Resistance in mΩ, truncated and saturated at 65535 (R151). -/
def resistance (r : TestReading) : Nat := min 65535 (r.mV * 1000 / r.mA)

/-- The class of a test and the resistance to write, none where the field keeps its value (R151). -/
def judgeTest (c : ChannelId) (cutoff : Int) (a b : TestReading) : HealthClass × Option Nat :=
  let ra := resistance a
  let rb := resistance b
  let low := c.testCurrent * 9 / 10
  if a.mA < low || b.mA < low then (.open, some 65535)
  else if decide (a.battery < cutoff) || decide (b.battery < cutoff) then (.testFailed, none)
  else if rb < (max ra rb - min ra rb) * 10 then (.testFailed, none)
  else if rb < c.testFloor then (.short, some rb)
  else if c.testCeiling < rb then (.open, some rb)
  else (.normal, some rb)

/-- The health entry after a test (R147, R151): TEST_FAILED leaves OPEN and SHORT as they are. -/
def Health.afterTest (h : Health) (p : HealthClass × Option Nat) : Health :=
  { result :=
      match p.1, h.result with
      | .testFailed, .open => .open
      | .testFailed, .short => .short
      | c, _ => c
    lastTest := some p.1
    resistance := p.2.orElse fun _ => h.resistance }

/-- A test reading takes the battery of the latest sample set and is the channel's latest reading (R150, R153). -/
def State.testReading (s : State) (mA mV : Nat) : TestReading := { mA := mA, mV := mV, battery := s.fe.battery }

/-- The test completes (R152): judged, health written, channel OFF, group idle, the group joins; a pending stow is taken
up for the awning. -/
def State.completeTest (s : State) (t : CircuitTest) (a b : TestReading) : State :=
  let c := t.chan
  let h := (s.health.get c).afterTest (judgeTest c (s.volts 1100) a b)
  let s1 := ({ s with health := s.health.set c h, test := none } : State).off c
  let s2 := (s1.leaveTesting c.owner).restance.joinGroup c.owner
  if c.owner = .awning then s2.takeUpStow else s2

/-! ## Power control (R181, R183, R185) -/

/-- The first four conditions of DORMANT (R181). -/
def State.allIdle (s : State) : Bool :=
  s.presentGroups.all s.groupIdle && s.arb.grants.isEmpty && s.store.job.isNone && s.test.isNone

/-- The awning is stowed or absent (R181). -/
def State.awningAway (s : State) : Bool := !s.straps.awning || s.stowed

/-- DORMANT is checked; the part rests when the reply has been sent (R181). -/
def State.onDormant (s : State) : Answer × State :=
  judged s [failsIf (!s.allIdle) (.notPermitted .notIdle), failsIf (!s.awningAway) (.notPermitted .awningOut)]
    (.ok [], { s with link := { s.link with ignitionSeen := false } })

/-- RESET is answered OK; the start-up follows its reply (R185). -/
def State.onReset (s : State) : Answer × State := (.ok [], s)

end Sys2Proof.Machine
end

