-- ==== Sys2Proof/Machine/FrontEnd.lean ====
section
/-!
DEFINITION. The sensor front end (chapter 1): one sample set taken and handed on, encoder steps, switch changes, the
chassis inputs with their latches.
-/

namespace Sys2Proof.Machine

open Sys2Proof

/-! ## Tilt (R4, R5) -/

def tiltFaulted : Option (Int × Int) → Bool
  | none => true
  | some p => decide (2500 < absInt p.1) || decide (2500 < absInt p.2)

/-- The ring takes a sample at its new end; a full ring drops its oldest (R5). -/
def pushRing {α : Type} (cap : Nat) (l : List α) (x : α) : List α := (l.drop (l.length + 1 - cap)) ++ [x]

/-- The mean of 16 samples, rounded half away from zero and clamped (R5). -/
def tiltMean (l : List Int) : Int := clampInt (-2000) 2000 (divRound l.sum 16)

/-- The filtered values follow a full ring and hold otherwise (R5). -/
def FrontEnd.refilter (f : FrontEnd) : FrontEnd :=
  if f.ring.length = 16 then { f with pitch := tiltMean (f.ring.map (·.1)), roll := tiltMean (f.ring.map (·.2)) } else f

/-- One tilt conversion, calibrated (R4). -/
def FrontEnd.takeTilt (f : FrontEnd) (cal : TiltCal) (t : Option (Int × Int)) : FrontEnd :=
  match t with
  | some p =>
    if tiltFaulted t then { f with ring := [] }
    else ({ f with ring := pushRing 16 f.ring (p.1 - cal.pitch, p.2 - cal.roll) } : FrontEnd).refilter
  | none => { f with ring := [] }

/-! ## Jacks (R7, R8) -/

/-- A conversion inside its span, clamped to its range; none is faulted (R7). -/
def conversion (lo hi max : Int) (x : Option Int) : Option Int :=
  x.bind fun v => if lo ≤ v && v ≤ hi then some (clampInt 0 max v) else none

def strokeConversion (r : JackReading) : Option Int := conversion (-20) 620 600 r.stroke
def pressureConversion (r : JackReading) : Option Int := conversion (-10) 270 250 r.pressure

/-- One jack's pair (R7, R8): in sensor fault a valid pair is only counted, and kept for the fifth. -/
def JackSense.take (q : JackSense) (r : JackReading) : JackSense :=
  match strokeConversion r, pressureConversion r with
  | some a, some b =>
    if q.fault then { q with validRun := min 5 (q.validRun + 1), latest := (a, b) }
    else { q with stroke := some a, pressure := some b }
  | _, _ => { q with fault := true, validRun := 0 }

/-! ## Contacts and counts (R9 to R11) -/

/-- One sample of a contact: the run of samples that differ from the state told (R10). -/
def Contact.sample (c : Contact) (raw : Bool) : Contact := { c with run := if raw = c.made then 0 else min 2 (c.run + 1) }

/-- This sample completes a change to MADE, so its count is handed on as 0 (R10, R11). -/
def Contact.zeroes (before after : Contact) : Bool := !before.made && decide (before.run = 1) && decide (after.run = 2)

def Count.handOn (c : Count) (zero : Bool) : Count := if zero then .zero else { c with handed := c.live }

def RoomSense.take (q : RoomSense) (r : RoomContacts) : RoomSense :=
  let f := q.foreIn.sample r.foreIn
  let a := q.aftIn.sample r.aftIn
  { fore := q.fore.handOn (q.foreIn.zeroes f), aft := q.aft.handOn (q.aftIn.zeroes a), foreIn := f, aftIn := a
    withdrawn := q.withdrawn.sample r.withdrawn, engaged := q.engaged.sample r.engaged }

/-! ## Battery (R13) -/

/-- One conversion; a missing one repeats the value, and the 26th and later ones in a run are 0 (R13). -/
def FrontEnd.takeBattery (f : FrontEnd) (v : Option Int) : FrontEnd :=
  match v with
  | some x => { f with battery := clampInt 0 6500 x, missing := 0 }
  | none => { f with missing := min 26 (f.missing + 1), battery := if 25 ≤ f.missing then 0 else f.battery }

/-! ## Switch changes (R10, R11) -/

/-- Two consecutive samples have read the new level, and the controllers are to be told of the change (R10). -/
def Contact.changes (c : Contact) (made : Bool) : Bool := decide (c.made ≠ made) && decide (2 ≤ c.run)

def Contact.changed (made : Bool) : Contact := { made := made, run := 0 }

/-- An in-stop opens with the room IDLE and IN: the end position is UNKNOWN (R52). -/
def State.roomCreeps (s : State) (r : RoomId) : State :=
  let x := s.room r
  if x.st = .idle && x.endPos = .inn then s.setRoom r { x with endPos := .unknown } else s

/-- A room that runs inward (R65, R78): the driven drive stops at its made in-stop, and with both in-stops made and no
drive driven the room settles. -/
def State.inStopMade (s : State) (r : RoomId) (d : Drive) : State :=
  if s.roomMoving r && decide ((s.room r).target = .inn) then
    if s.driven (.drive r d) then
      let s1 := s.stopDrive r d
      if s1.leadFault r then s1.endRoomUnsure r .syncFault else s1.arriveIfStill r
    else s.arriveIfStill r
  else s

/-- An in-stop's debounced change (R11): MADE sets the count of its drive to 0. -/
def State.inStop (s : State) (r : RoomId) (d : Drive) (made : Bool) : State :=
  let q := (s.sense r).setInStop d (.changed made)
  if made then (s.setSense r (q.setCount d .zero)).inStopMade r d else (s.setSense r q).roomCreeps r

/-- The controller is told that the pin reads `p` (R10). -/
def RoomSense.withPin (q : RoomSense) (p : PinState) : RoomSense :=
  let w := decide (p = .withdrawn) || decide (p = .invalid)
  let e := decide (p = .engaged) || decide (p = .invalid)
  { q with
    withdrawn := if q.withdrawn.made = w then q.withdrawn else .changed w
    engaged := if q.engaged.made = e then q.engaged else .changed e }

/-- The pin reads `p`, and its controller has not been told of it (R10). -/
def RoomSense.pinChanges (q : RoomSense) (p : PinState) : Bool := decide (q.pin = p) && decide (q.pinTold ≠ p)

/-- The pin's debounced state changes (R58, R65). -/
def State.pinChange (s : State) (r : RoomId) (p : PinState) : State :=
  let s1 := s.setSense r ((s.sense r).withPin p)
  match (s1.room r).st, p with
  | .work .preparing, .withdrawn => s1.pinWithdrawn r
  | .work .settling, .engaged => s1.pinEngaged r
  | _, _ => s1

/-- The stowed switch becomes MADE: count 0; a driven MOVE IN, Home or stow arrives; an idle awning's pending stow goes
(R11, R85, R89, R94, R95). -/
def State.stowedMade (s : State) : State :=
  let s1 : State := ({ s with fe := { s.fe with stowed := .changed true } } : State).zeroAwning
  if s1.driven .awning && s1.aw.seeksSwitch then s1.awningArrivesIn
  else if s1.aw.st = .idle then s1.setPending none
  else s1

/-- The stowed switch opens: an idle awning at IN is at UNKNOWN (R81). -/
def State.stowedOpen (s : State) : State :=
  let s1 : State := { s with fe := { s.fe with stowed := .changed false } }
  if s1.aw.st = .idle && s1.aw.endPos = .inn then s1.modAw fun a => { a with endPos := .unknown } else s1

/-- The room is told of an in-stop's change to `made`, where one is owed (R10, R11). -/
def State.tellInStop (s : State) (r : RoomId) (d : Drive) (made : Bool) : State :=
  if s.straps.hasRoom r && ((s.sense r).inStop d).changes made then s.settled (s.inStop r d made) else s

/-- The room is told that its pin has changed to `p`, where it has (R10, R58). -/
def State.tellPin (s : State) (r : RoomId) (p : PinState) : State :=
  if s.straps.hasRoom r && (s.sense r).pinChanges p then s.settled (s.pinChange r p) else s

/-- The awning is told of the stowed switch's change to `made`, where one is owed (R10, R11). -/
def State.tellStowed (s : State) (made : Bool) : State :=
  if s.straps.awning && s.fe.stowed.changes made then s.settled (if made then s.stowedMade else s.stowedOpen) else s

/-! ## One sample set (R3) -/

/-- The front end's own part of a sample set: every reading taken. -/
def State.takeSet (s : State) (x : SampleSet) : State :=
  let f := s.fe.takeTilt s.store.active.tiltCal x.tilt
  let w := f.stowed.sample x.stowed
  let f1 : FrontEnd := { f with
    jacks := .tab fun j => if s.straps.hasJack j then (f.jacks.get j).take (x.jacks.get j) else f.jacks.get j
    rooms := .tab fun r => if s.straps.hasRoom r then (f.rooms.get r).take (x.rooms.get r) else f.rooms.get r
    awningCount := if s.straps.awning then f.awningCount.handOn (f.stowed.zeroes w) else f.awningCount
    stowed := if s.straps.awning then w else f.stowed }
  { s with fe := f1.takeBattery x.battery }

/-- The faults a set shows (R4, R8): a jack counts when it enters sensor fault. -/
def setFaults (before after : State) (x : SampleSet) : SampleFaults :=
  { tilt := tiltFaulted x.tilt
    jack := before.presentJacks.any fun j => !(before.jackSense j).fault && (after.jackSense j).fault }

/-- The new samples of a set (R3): tilt with the filter full, a jack not in sensor fault. -/
def setFresh (after : State) (x : SampleSet) : Fresh :=
  { set := true, tilt := !tiltFaulted x.tilt && after.filterFull
    jacks := .tab fun j => after.straps.hasJack j && !(after.jackSense j).fault
    wind := false }

/-- One receiver takes the set that `brought` holds (R3); what it ends owes a walk. A switch takes the change that the set
completes, if it does complete one, as the change's own row would (R131, R132; DESIGN CHOICE, notes 3). -/
def State.consume (brought : State) (faults : SampleFaults) (f : Fresh) (s : State) (c : Consumer) : State :=
  match c with
  | .levelling => s.settled (s.jackSample faults f.tilt)
  | .room r => if s.straps.hasRoom r then s.settled (s.roomSample r) else s
  | .awning => if s.straps.awning then s.settled s.awningSample else s
  | .watches => s.watchSample brought f
  | .envelope => s.envelopeSample f
  | .arbiter => s.voltageSample
  | .inStop r d => s.tellInStop r d ((s.sense r).inStop d).reads
  | .pin r => s.tellPin r (s.sense r).pin
  | .stowedSwitch => s.tellStowed s.fe.stowed.reads

/-- The receivers that take every set; a switch change is no reading, and one not named is left to its row (notes 3). -/
def consumers : List Consumer :=
  [.levelling, .room .room0, .room .room1, .room .room2, .room .room3, .awning, .watches, .envelope, .arbiter]

/-- The order in which the receivers take a set: as given, each once, and the ones not named after them (notes 5). -/
def consumerOrder (order : List Consumer) : List Consumer := (order ++ consumers).eraseDups

/-- A sample set taken and handed on (R3, R155). -/
def State.handSet (s : State) (x : SampleSet) (order : List Consumer) : State :=
  let s1 := (s.takeSet x).restance
  ((consumerOrder order).foldl (State.consume s1 (setFaults s s1 x) (setFresh s1 x)) s1).restance

/-! ## Leaving sensor fault (R8) -/

def Fresh.oneJack (j : JackId) : Fresh := { set := false, tilt := false, jacks := (PerJack.all false).set j true, wind := false }

/-- The idle states that are derived again from the strokes (R21). -/
def State.rederiveIdle (s : State) : State :=
  match s.jk.st with
  | .idle .retracted => s.rederive
  | .idle .down => s.rederive
  | _ => s

/-- The jack leaves sensor fault with the values of the fifth pair, its first new sample (R8), which the watches take before
the envelope (DESIGN CHOICE, notes 25). -/
def State.clearFault (s : State) (j : JackId) : State :=
  let q := s.jackSense j
  let s1 : State := { s with fe := { s.fe with jacks := s.fe.jacks.set j { q with
    fault := false, validRun := 0, stroke := some q.latest.1, pressure := some q.latest.2 } } }
  let s2 := s1.restance.rederiveIdle.restance
  ((s2.watchSample s2 (.oneJack j)).envelopeSample (.oneJack j)).restance

/-! ## Steps and pulses (R9, R14) -/

/-- One step outward or inward, clamped to −200..4000 (R9). -/
def Count.step (c : Count) (outward : Bool) : Count :=
  { c with live := clampInt (-200) 4000 (if outward then c.live + 1 else c.live - 1) }

def State.encoder (s : State) (a : CountAxis) (outward : Bool) : State :=
  match a with
  | .drive r d =>
    if s.straps.hasRoom r then s.setSense r ((s.sense r).setCount d (((s.sense r).count d).step outward)) else s
  | .awning =>
    if s.straps.awning then { s with fe := { s.fe with awningCount := s.fe.awningCount.step outward } } else s

def State.pulse (s : State) : State :=
  if s.straps.awning then { s with fe := { s.fe with pulses := s.fe.pulses + 1 } } else s

/-! ## Chassis inputs (R15, R16) -/

def InputLine.sample (l : InputLine) (raw : Bool) : InputLine :=
  { l with run := if raw = l.level then 0 else min 5 (l.run + 1) }

def Inputs.sample (i : Inputs) (r : RawInputs) : Inputs :=
  { parkSet := i.parkSet.sample r.parkSet, ignition := i.ignition.sample r.ignition, engine := i.engine.sample r.engine
    charging := i.charging.sample r.charging, airDumped := i.airDumped.sample r.airDumped
    keyOff := i.keyOff.sample r.keyOff }

/-- The fifth differing sample has been taken, and the change is to `b` (R15). -/
def InputLine.changes (l : InputLine) (b : Bool) : Bool := decide (l.level ≠ b) && decide (5 ≤ l.run)

/-- A latched-low input's change (R16): the latch becomes false with the value and stays so. -/
def InputLine.becomesLow (l : InputLine) (b : Bool) : InputLine := { level := b, latch := l.latch && b, run := 0 }

/-- A latched-high input's change (R16): the latch becomes true with the value and stays so. -/
def InputLine.becomesHigh (l : InputLine) (b : Bool) : InputLine := { level := b, latch := l.latch || b, run := 0 }

def Inputs.first (r : RawInputs) : Inputs :=
  { parkSet := .first r.parkSet, ignition := .first r.ignition, engine := .first r.engine, charging := .first r.charging
    airDumped := .first r.airDumped, keyOff := .first r.keyOff }

end Sys2Proof.Machine
end

