-- ==== Sys2Proof/Machine/Power.lean ====
section
/-!
DEFINITION. Power control (chapter 11): start-up after power-on and soft reset, entry to DORMANT, waking, and the loss of
supply.
-/

namespace Sys2Proof.Machine

open Sys2Proof

/-! ## The check of the store (R176) -/

/-- The group with the code given fails its check. -/
def Store.fails (t : Store) (g : Nat) : Bool := !t.checkOk.getLsbD g

/-- A failing group keeps its stored copy when it is a locked calibration group (R176). -/
def Store.keepsStored (t : Store) (g : Nat) : Bool := decide (g < 4) && t.locks.getLsbD g

/-- The groups 0 to 7 with each one taken from `y` where `pick` says so, and from `x` elsewhere. -/
def mixSettings (pick : Nat → Bool) (x y : Settings) : Settings :=
  { geometry := if pick 0 then y.geometry else x.geometry
    roomCal := if pick 1 then y.roomCal else x.roomCal
    awningCal := if pick 2 then y.awningCal else x.awningCal
    tiltCal := if pick 3 then y.tiltCal else x.tiltCal
    level := if pick 4 then y.level else x.level
    roomRun := if pick 5 then y.roomRun else x.roomRun
    awningRun := if pick 6 then y.awningRun else x.awningRun
    supply := if pick 7 then y.supply else x.supply }

/-- The active copies as a start-up loads them: the stored copy, or the defaults for a group that fails (R176). -/
def Store.loaded (t : Store) : Settings := mixSettings t.fails t.stored Config.factory

/-- Which bits of the check are valid once the defaults of the unlocked failing groups have been written (R176). -/
def Store.repairedChecks (t : Store) : BitVec 10 :=
  (List.range 10).foldl (fun b g => if t.fails g && !t.keepsStored g then setBit10 b g true else b) t.checkOk

/-- The store after the power-on check (R176): failing groups defaulted and marked, and written back unless locked. -/
def Store.checked (t : Store) : Store :=
  { t with
    active := t.loaded
    stored := mixSettings (fun g => t.fails g && !t.keepsStored g) t.stored Config.factory
    storedEnvelope := if t.fails 8 then Config.factoryEnvelope else t.storedEnvelope
    storedWatches := if t.fails 9 then Config.factoryWatches else t.storedWatches
    checkOk := t.repairedChecks
    defaulted := ~~~t.checkOk
    job := none }

/-- The store at soft reset (R176): the write in flight completes, the active copies are loaded again, nothing is
checked. A group that was locked when it failed its check is the only one whose copy does not pass, and is loaded with its
defaults; one that was defaulted unlocked, written back and locked later is loaded from its copy (DESIGN CHOICE, notes 13). -/
def Store.reloaded (t : Store) : Store :=
  let u := t.completed
  { u with active := u.loaded }

/-! ## The first sample set (R3, R7, R12, R13) -/

/-- One jack at start-up: out of sensor fault, its stroke unknown (R8) and its pressure too (DESIGN CHOICE, notes 30),
and then its first conversions. -/
def JackSense.first (r : JackReading) : JackSense :=
  ({ stroke := none, pressure := none, fault := false, validRun := 0, latest := (0, 0) } : JackSense).take r

/-- A contact's first reading, with no debounce wait (R12). -/
def Contact.first (raw : Bool) : Contact := { made := raw, run := 0 }

/-- A count kept, or 0 at power-on (R12), as the first set hands it on. -/
def Count.start (keep : Bool) (c : Count) : Count := if keep then { c with handed := c.live } else .zero

def RoomSense.start (keep : Bool) (q : RoomSense) (r : RoomContacts) : RoomSense :=
  { fore := q.fore.start keep, aft := q.aft.start keep, foreIn := .first r.foreIn, aftIn := .first r.aftIn
    withdrawn := .first r.withdrawn, engaged := .first r.engaged }

/-- A jack that no strap names is not sampled. -/
def JackSense.unsampled : JackSense := { stroke := none, pressure := none, fault := false, validRun := 0, latest := (0, 0) }

/-- A room that no strap names is not sampled: its contacts stand open and its counts at 0. -/
def RoomSense.unsampled : RoomSense :=
  { fore := .zero, aft := .zero, foreIn := .first false, aftIn := .first false, withdrawn := .first false
    engaged := .first false }

/-- The front end after the first sample set of a start-up (R5, R6, R8, R12, R13, R14). -/
def FrontEnd.start (keep : Bool) (old : FrontEnd) (t : Straps) (cal : TiltCal) (x : SampleSet) : FrontEnd :=
  let f0 : FrontEnd :=
    { ring := [], pitch := 0, roll := 0
      jacks := .tab fun j => if t.hasJack j then .first (x.jacks.get j) else .unsampled
      rooms := .tab fun r => if t.hasRoom r then (old.rooms.get r).start keep (x.rooms.get r) else .unsampled
      awningCount := if t.awning then old.awningCount.start keep else .zero
      stowed := .first (t.awning && x.stowed), battery := 0, missing := 0, pulses := 0 }
  (f0.takeTilt cal x.tilt).takeBattery x.battery

/-! ## Start-up (R184, R185) -/

/-- A room after power-on (R53). -/
def RoomSense.roomAtPowerOn (q : RoomSense) : Room := .initial q.bothIn (if q.bothIn then .inn else .unknown)

/-- A room after soft reset (R53): kept where it was IDLE or TESTING. -/
def Room.afterReset (x : Room) : Room :=
  match x.st with
  | .idle => .initial x.known x.endPos
  | .testing => .initial x.known x.endPos
  | _ => .initial false .unknown

/-- The awning after soft reset (R82). -/
def Awning.afterReset (a : Awning) : Awning :=
  match a.st with
  | .idle => .initial a.known a.endPos
  | .testing => .initial a.known a.endPos
  | _ => .initial false .unknown

/-- The base the first inputs give (R98, R115). -/
def Inputs.base (i : Inputs) : Nat := if i.engine.level || i.charging.level then 240 else 160

/-- The attention set of a start-up (R160). -/
def StanceAttention.start (old : StanceAttention) (defaulted : Bool) : StanceAttention :=
  { old with
    groups := .all false, supervision := true
    causes := { SupCauses.none with reset := true, storeDefaulted := defaulted }, records := .all none }

/-- Every block at its reset values, before the drive-away check; `s` holds what the reset keeps (R184, R185). -/
def State.blocks (s : State) (keep : Bool) (t : Straps) (st : Store) (raw : RawInputs) (x : SampleSet) : State :=
  let fe := FrontEnd.start keep s.fe t st.active.tiltCal x
  let i := Inputs.first raw
  let s1 : State := { s with
    power := .awake, straps := t, clock := .initial, fe := fe, inputs := i
    jk := .initial .retracted false
    rooms := .tab fun r => if keep then (s.room r).afterReset else if t.hasRoom r then (fe.rooms.get r).roomAtPowerOn
      else .initial false .unknown
    aw := if keep then s.aw.afterReset else .initial fe.stowed.made (if fe.stowed.made then .inn else .unknown)
    wind := .initial, arb := .initial i.base
    guard := .initial st.storedEnvelope st.storedWatches
    ch := .all .initial, health := .all .initial, test := none, link := .initial, store := st }
  let idle := s1.derivedIdle
  { s1 with jk := .initial idle (t.airsusp && decide (idle = .down)) }

/-- The end of a start-up: stance, drive-away check, attention set, notice owed (R184 steps 5 to 8). -/
def State.started (s : State) (defaulted : Bool) : State :=
  let s1 := s.restance.driveAwayCheck.restance
  { s1 with
    sa := s1.sa.start defaulted
    link := { s1.link with notice := true } }

/-- The store whose supply has gone: nothing but the stored copies and the lock cells (R184). A write of the tables fails
the groups of `torn`, and the other one keeps its old contents (DESIGN CHOICE, notes 19). -/
def Store.afterLoss (t : Store) (torn : TornTables) : Store :=
  let ok :=
    match t.job with
    | none => t.checkOk
    | some (.item g _ _, _) => setBit10 t.checkOk g false
    | some (.tilt _ _, _) => setBit10 t.checkOk 3 false
    | some (.lock _, _) => t.checkOk
    | some (.tables _ _, _) =>
      match torn with
      | .envelope => setBit10 t.checkOk 8 false
      | .watch => setBit10 t.checkOk 9 false
      | .both => setBit10 (setBit10 t.checkOk 8 false) 9 false
  { Store.factory with
    stored := t.stored, storedEnvelope := t.storedEnvelope, storedWatches := t.storedWatches, checkOk := ok, locks := t.locks }

/-- The part without supply (R184): every line released, every channel OFF, everything else lost (notes 9). -/
def State.unpowered (s : State) (torn : TornTables) : State :=
  { State.reset with
    power := .off
    sa := { State.reset.sa with stowedLine := false, jacksLine := false, supervision := false, causes := .none }
    link := .initial
    store := s.store.afterLoss torn
    pending := s.pending }

/-- Start-up after the return of supply (R184). -/
def State.powerUp (s : State) (pins : StrapPins) (raw : RawInputs) (x : SampleSet) : State :=
  let s1 := s.unpowered .both
  let st := s1.store.checked
  (s1.blocks false pins.straps st raw x).started (decide (st.defaulted ≠ 0))

/-- Start-up after a soft reset (R185): straps, counts, idle positions and the store's contents kept. -/
def State.softReset (s : State) (raw : RawInputs) (x : SampleSet) : State :=
  (s.blocks true s.straps s.store.reloaded raw x).started false

/-! ## Entry to DORMANT (R181) -/

/-- Frames that stay heard and queued while dormant: IDENTIFY and WAKE (R165, R171). -/
def dormantKind (kind : Byte) : Bool := decide (kind = 0x01) || decide (kind = 0x61)

def Arbiter.restarted (a : Arbiter) : Arbiter := { a with sagRun := 0, recRun := 0, entRun := 0, exitRun := 0 }

def State.enterDormant (s : State) : State :=
  { s with
    power := .dormant
    ch := .tab fun c => (s.ch.get c).turnedOff
    fe := { s.fe with ring := [] }
    wind := { s.wind with ring := [], gust := 0, sustained := none }
    jk := { s.jk with driftLeft := none, driftWait := false }
    arb := s.arb.restarted
    link := { s.link with rx := .hunting, queue := s.link.queue.filter fun f => dormantKind f.kind } }

/-- The test at the end of the DORMANT reply (R181). -/
def State.mayRest (s : State) : Bool := s.allIdle && s.awningAway && !s.link.ignitionSeen

/-! ## Waking (R183) -/

/-- The front end's first set on waking: contacts read at once, counts kept, the counting of valid pairs restarted (R8,
R12). -/
def State.wakeSet (s : State) (x : SampleSet) : State :=
  let f := s.fe
  let f1 : FrontEnd := { f with
    jacks := .tab fun j => { f.jacks.get j with validRun := 0 }
    rooms := .tab fun r => if s.straps.hasRoom r then (f.rooms.get r).start true (x.rooms.get r) else f.rooms.get r
    stowed := if s.straps.awning then .first x.stowed else f.stowed
    missing := 0, pulses := 0 }
  ({ s with fe := f1 } : State).takeSet x

/-- A switch and its count disagree (R54, R82). -/
def disagrees (made : Bool) (count : Int) : Bool :=
  if made then decide (24 < absInt count) else decide (count ≤ 0)

/-- The wake check of one room (R54). -/
def State.wakeRoom (s : State) (r : RoomId) : State :=
  let q := s.sense r
  if disagrees q.foreIn.made q.fore.live || disagrees q.aftIn.made q.aft.live then
    s.setRoom r { s.room r with known := false, endPos := .unknown }
  else s

/-- The wake check of the awning (R82). -/
def State.wakeAwning (s : State) : State :=
  if s.straps.awning && disagrees s.stowed s.fe.awningCount.live then
    s.modAw fun a => { a with known := false, endPos := .unknown }
  else s

/-- No stow is pending or running on waking (R82). -/
def State.noStow (s : State) : State := s.modAw fun a => { a with stowCause := none, pendingStow := none }

/-- The intervals at the first set of a waking, 20 ms after its event (R3, R183): the sample interval starts again, the
reading and the input interval have run four and two times, and the wind window has 230 ms left (notes 44). -/
def Clock.atWakeSet (c : Clock) : Clock :=
  { Clock.initial with input := c.input, wind := Clock.initial.wind - Clock.initial.sample }

/-- Waking, steps 1 to 5 (R183), as one event that ends at the first set, one sample interval after it began (notes 44).
The set reaches the engine, the watches and the arbiter like any other (R3). -/
def State.wakeUp (s : State) (x : SampleSet) : State :=
  let s0 : State := { s with power := .awake, clock := s.clock.atWakeSet }
  let s1 : State := { s0 with arb := { s0.arb with base := s0.inputBase } }
  let s2 := (s1.presentRooms.foldl State.wakeRoom (s1.wakeSet x)).wakeAwning.noStow
  let s3 := ({ s2 with wind := { s2.wind with quiet := 0 } } : State).restance
  let s4 := (s3.settled (s3.jackSample (setFaults s1 s3 x) false)).watchSample s3 (setFresh s3 x)
  let s5 := s4.voltageSample.restance.driveAwayCheck.restance
  s5.joinSupervision SupCauses.addWake

/-- The WAKE request's effect: none on a part that is awake (R183). -/
def State.onWake (s : State) (x : SampleSet) : Answer × State :=
  match s.power with
  | .dormant => (.ok [], s.wakeUp x)
  | _ => (.ok [], s)

end Sys2Proof.Machine
end

