-- ==== Sys2Proof/Machine/Link.lean ====
section
/-!
DEFINITION. The link port (chapter 9): the receiver, the queue, taking requests, replies and notices, and the link rows
of the table.
-/

namespace Sys2Proof.Machine

open Sys2Proof

/-! ## Sending (R159, R168, R170, R172) -/

/-- The NOTICE as it begins: the attention set and SUPERVISION's causes of that moment (R159, R172). -/
def State.noticeFrame (s : State) : SentFrame :=
  { kind := 0x7F, tag := 0, payload := [s.attentionByte, s.supByte], after := .nothing }

/-- A free transmit path takes the reply in the slot, or else a notice that is owed (R168). -/
def State.kick (s : State) : State :=
  match s.link.tx with
  | some _ => s
  | none =>
    match s.link.slot with
    | some f => { s with link := { s.link with tx := some f, slot := none } }
    | none =>
      if s.link.notice then { s with link := { s.link with tx := some s.noticeFrame, notice := false } } else s

/-- The outcome of a command on a part that has supply: the transmit path starts what it can. -/
def State.ifOn (s t : State) : Host.Outcome State Fault Refusal := .next (if s.power = .off then s else t.kick)

/-- The outcome of a command that only a part that is awake acts on. -/
def State.ifAwake (s t : State) : Host.Outcome State Fault Refusal := .next (if s.power = .awake then t.kick else s)

/-- What follows the reply when it has been sent whole (R181, R185). -/
def afterReply (q : Request) (a : Answer) : AfterReply :=
  match q, a with
  | .dormant, .ok _ => .dormant
  | .reset, .ok _ => .reset
  | _, _ => .nothing

/-- Every reply has kind = request kind + 0x80 and the tag of its request (R170). -/
def replyFrame (kind tag : Byte) (a : Answer) (after : AfterReply) : SentFrame :=
  { kind := kind + 0x80, tag := tag, payload := a.payload, after := after }

def State.putReply (s : State) (f : SentFrame) : State := { s with link := { s.link with slot := some f } }

/-! ## Taking a request (R167, R169) -/

def SentFrame.ends (f : SentFrame) : Bool := decide (f.after ≠ .nothing)

/-- A DORMANT or RESET reply is not yet sent whole: no further request is taken (R181, notes 6). -/
def State.ending (s : State) : Bool := s.link.tx.any SentFrame.ends || s.link.slot.any SentFrame.ends

/-- The link port can take a request: the reply slot is empty and nothing ends with a reply (R167). -/
def State.canTake (s : State) : Bool := s.link.slot.isNone && !s.ending

def Request.dormantOk : Request → Bool
  | .identify => true
  | .wake => true
  | _ => false

/-- The request can be taken in this power state (R165, R182). -/
def State.mayTake (s : State) (q : Request) : Bool :=
  s.canTake && (decide (s.power = .awake) || (decide (s.power = .dormant) && Request.dormantOk q))

/-- The owner's answer is placed in the reply slot (R167). -/
def State.answered (p : Answer × State) (tag : Byte) (q : Request) : State :=
  p.2.putReply (replyFrame (byteOf q.kind) tag p.1 (afterReply q p.1))

/-- A request row: the request is taken with the tag given and its owner answers `p`; bytes outside their codes get
BAD_ARGUMENT, and a link port that cannot take it changes nothing (R167, R169, notes 6). -/
def State.asked (s : State) (tag : Byte) (q : Request) (p : Answer × State) : State :=
  if s.mayTake q then State.answered (if q.wf then p else (.badArgument, s)) tag q else s

/-- The owner of each request (9.5). -/
def State.handle (s : State) (x : SampleSet) : Request → Answer × State
  | .identify => s.onIdentify
  | .readCapability o n => s.onReadCapability o n
  | .readStatus => s.onReadStatus
  | .readCounters => s.onReadCounters
  | .roomMove r e v => s.onRoomMove r e v
  | .jog j v => s.onJog j v
  | .awningMove e v => s.onAwningMove e v
  | .hold m => s.onHold m
  | .stop m => s.onStop m
  | .roomHome r => s.onRoomHome r
  | .awningHome => s.onAwningHome
  | .levelAuto => s.onLevelAuto
  | .levelStow => s.onLevelStow
  | .resume m => s.onResume m
  | .readGroup g => s.onReadGroup g
  | .readStopRecord g => s.onReadStopRecord g
  | .readLevelResult p => s.onReadLevelResult p
  | .clearAttention m => s.onClearAttention m
  | .readEnvelope i => s.onReadEnvelope i
  | .writeEnvelope i c => s.onWriteEnvelope i c
  | .lockEnvelope i => s.onLockEnvelope i
  | .readWatch i => s.onReadWatch i
  | .writeWatch i c => s.onWriteWatch i c
  | .clearWatchHits m => s.onClearWatchHits m
  | .storeTables => s.onStoreTables
  | .circuitTest c => s.onCircuitTest c
  | .readHealth c n => s.onReadHealth c n
  | .readSetting g i => s.onReadSetting g i
  | .writeSetting g i v => s.onWriteSetting g i v
  | .lockCalibration g => s.onLockCalibration g
  | .zeroTilt => s.onZeroTilt
  | .dormant => s.onDormant
  | .wake => s.onWake x
  | .reset => s.onReset

/-- A frame of the queue, taken: the link port's checks, then the owner (R167, R169, R170). -/
def State.takeFrame (s : State) (f : RequestFrame) (x : SampleSet) : State :=
  match decodeRequest f.kind.toNat f.payload with
  | .error e => s.putReply (replyFrame f.kind f.tag (linkAnswer e) .nothing)
  | .ok q =>
    let p := s.handle x q
    p.2.putReply (replyFrame f.kind f.tag p.1 (afterReply q p.1))

/-- The head of the queue is taken, if the link port can (R167). -/
def State.takeHead (s : State) (x : SampleSet) : State :=
  match s.link.queue with
  | [] => s
  | f :: rest =>
    if s.canTake && (decide (s.power = .awake) || dormantKind f.kind) then
      ({ s with link := { s.link with queue := rest } } : State).takeFrame f x
    else s

/-! ## The receiver (R164, R165) -/

/-- A link counter, saturating at 65535 (R166). -/
def countUp (n : Nat) : Nat := min 65535 (n + 1)

def State.framingFault (s : State) : State :=
  { s with link := { s.link with rx := .hunting, framing := countUp s.link.framing } }

/-- A good frame joins the queue, is lost to overflow, or is not heard while dormant (R165). -/
def State.offer (s : State) (f : RequestFrame) : State :=
  if s.power = .dormant && !dormantKind f.kind then s
  else if 4 ≤ s.link.queue.length then { s with link := { s.link with overflow := countUp s.link.overflow } }
  else { s with link := { s.link with queue := s.link.queue ++ [f] } }

/-- A frame collected whole is judged by its check (R165): kind, tag, payload and the two check bytes. -/
def State.judgeFrame (s : State) (length : Byte) (got : List Byte) : State :=
  let s1 : State := { s with link := { s.link with rx := .hunting } }
  match got.take length.toNat, got.drop length.toNat with
  | kind :: tag :: payload, [hi, lo] =>
    if crc16 (length :: kind :: tag :: payload) = half hi lo then
      s1.offer { kind := kind, tag := tag, payload := payload }
    else { s1 with link := { s1.link with check := countUp s1.link.check } }
  | _, _ => s1

/-- One byte received (R164). -/
def State.hear (s : State) (b : Byte) : State :=
  match s.link.rx with
  | .hunting => if b = 0xC3 then { s with link := { s.link with rx := .started } } else s
  | .started =>
    if badLengthByte b then s.framingFault else { s with link := { s.link with rx := .inside b [] } }
  | .inside n got =>
    let g := got ++ [b]
    if n.toNat + 2 ≤ g.length then s.judgeFrame n g else { s with link := { s.link with rx := .inside n g } }

def State.hearAll (s : State) (bytes : List Byte) : State := bytes.foldl State.hear s

/-- A fault inside a frame discards it and counts; while hunting nothing is counted (R164). -/
def State.breakFrame (s : State) : State :=
  match s.link.rx with
  | .hunting => s
  | _ => s.framingFault

/-- A length byte outside 2 to 50 where a length is due (R164); any other byte is heard as it comes. -/
def State.hearFault (s : State) (c : FramingCause) : State :=
  match c with
  | .badLength b => s.hear b
  | .noStopBit => s.breakFrame

/-! ## A frame sent whole (R168, R181, R185) -/

/-- What follows the frame that has been sent: rest, reset, or nothing. -/
def State.sentWhole (s : State) (f : SentFrame) (raw : RawInputs) (x : SampleSet) : State :=
  match s.power, f.after with
  | .awake, .dormant => if s.mayRest then s.enterDormant else s
  | .awake, .reset => s.softReset raw x
  | _, _ => s

def State.transmitted (s : State) (raw : RawInputs) (x : SampleSet) : State :=
  match s.link.tx with
  | none => s
  | some f => ({ s with link := { s.link with tx := none } } : State).sentWhole f raw x

/-! ## The link rows -/

/-- FRAME_RECEIVED (R164, R165): the bytes come in, and a frame collected whole is judged. -/
def execFrameReceived (bytes : List Byte) (s : State) : Host.Outcome State Fault Refusal := s.ifOn (s.hearAll bytes)

/-- INTER_BYTE_GAP_TIMEOUT (R164): the bytes so far, then a gap of more than 5 ms. -/
def execInterByteGapTimeout (got : List Byte) (s : State) : Host.Outcome State Fault Refusal :=
  s.ifOn (s.hearAll got).breakFrame

/-- FRAMING_FAULT (R164): the bytes so far, then a bad length byte or a byte without its stop bit. -/
def execFramingFault (got : List Byte) (cause : FramingCause) (s : State) : Host.Outcome State Fault Refusal :=
  s.ifOn ((s.hearAll got).hearFault cause)

/-- REQUEST_TAKEN (R167). -/
def execRequestTaken (x : SampleSet) (s : State) : Host.Outcome State Fault Refusal := s.ifOn (s.takeHead x)

/-- FRAME_TRANSMIT_COMPLETE (R168). -/
def execFrameTransmitComplete (raw : RawInputs) (x : SampleSet) (s : State) : Host.Outcome State Fault Refusal :=
  s.ifOn (s.transmitted raw x)

/-! ## Power rows -/

/-- POWER_ON (R184). -/
def execPowerOn (pins : StrapPins) (raw : RawInputs) (x : SampleSet) (s : State) : Host.Outcome State Fault Refusal :=
  .next (s.powerUp pins raw x).kick

/-- POWER_LOSS (R184). -/
def execPowerLoss (torn : TornTables) (s : State) : Host.Outcome State Fault Refusal :=
  .next (if s.power = .off then s else s.unpowered torn)

end Sys2Proof.Machine
end

