-- ==== Sys2Proof/Machine/Requests.lean ====
section
/-!
DEFINITION. The request rows of the table: each is its request taken with its tag, and answered by its owner (R167).
-/

namespace Sys2Proof.Machine

open Sys2Proof

/-- IDENTIFY (R180). -/
def execIdentify (tag : Byte) (s : State) : Host.Outcome State Fault Refusal :=
  s.ifOn (s.asked tag (.identify) (s.onIdentify))

/-- READ_CAPABILITY (R180). -/
def execReadCapability (tag offset count : Byte) (s : State) : Host.Outcome State Fault Refusal :=
  s.ifOn (s.asked tag (.readCapability offset count) (s.onReadCapability offset count))

/-- READ_STATUS (R16). -/
def execReadStatus (tag : Byte) (s : State) : Host.Outcome State Fault Refusal :=
  s.ifOn (s.asked tag (.readStatus) (s.onReadStatus))

/-- READ_COUNTERS (R166). -/
def execReadCounters (tag : Byte) (s : State) : Host.Outcome State Fault Refusal :=
  s.ifOn (s.asked tag (.readCounters) (s.onReadCounters))

/-- MOVE naming a room (R55). -/
def execMove (tag : Byte) (r : RoomId) (e : EndCode) (v : Half) (s : State) : Host.Outcome State Fault Refusal :=
  s.ifOn (s.asked tag (.roomMove r e v) (s.onRoomMove r e v))

/-- MOVE naming a jack (R47). -/
def execJog (tag : Byte) (j : JackId) (v : Half) (s : State) : Host.Outcome State Fault Refusal :=
  s.ifOn (s.asked tag (.jog j v) (s.onJog j v))

/-- MOVE naming the awning (R83). -/
def execAwningMove (tag : Byte) (e : EndCode) (v : Half) (s : State) : Host.Outcome State Fault Refusal :=
  s.ifOn (s.asked tag (.awningMove e v) (s.onAwningMove e v))

/-- HOLD (R49, R68). -/
def execHold (tag mask : Byte) (s : State) : Host.Outcome State Fault Refusal :=
  s.ifOn (s.asked tag (.hold mask) (s.onHold mask))

/-- STOP (R38, R76, R87). -/
def execStop (tag mask : Byte) (s : State) : Host.Outcome State Fault Refusal :=
  s.ifOn (s.asked tag (.stop mask) (s.onStop mask))

/-- HOME naming a room (R77). -/
def execHome (tag : Byte) (r : RoomId) (s : State) : Host.Outcome State Fault Refusal :=
  s.ifOn (s.asked tag (.roomHome r) (s.onRoomHome r))

/-- HOME naming the awning (R89). -/
def execAwningHome (tag : Byte) (s : State) : Host.Outcome State Fault Refusal :=
  s.ifOn (s.asked tag (.awningHome) (s.onAwningHome))

/-- LEVEL mode 0 (R23, R24). -/
def execLevelAuto (tag : Byte) (s : State) : Host.Outcome State Fault Refusal :=
  s.ifOn (s.asked tag (.levelAuto) (s.onLevelAuto))

/-- LEVEL mode 1 (R45). -/
def execLevelStow (tag : Byte) (s : State) : Host.Outcome State Fault Refusal :=
  s.ifOn (s.asked tag (.levelStow) (s.onLevelStow))

/-- RESUME (R137). -/
def execResume (tag mask : Byte) (s : State) : Host.Outcome State Fault Refusal :=
  s.ifOn (s.asked tag (.resume mask) (s.onResume mask))

/-- READ_GROUP (R18, R50, R79, R97). -/
def execReadGroup (tag : Byte) (g : Group) (s : State) : Host.Outcome State Fault Refusal :=
  s.ifOn (s.asked tag (.readGroup g) (s.onReadGroup g))

/-- READ_STOP_RECORD (R163). -/
def execReadStopRecord (tag : Byte) (g : Group) (s : State) : Host.Outcome State Fault Refusal :=
  s.ifOn (s.asked tag (.readStopRecord g) (s.onReadStopRecord g))

/-- READ_LEVEL_RESULT (R173). -/
def execReadLevelResult (tag : Byte) (p : LevelPart) (s : State) : Host.Outcome State Fault Refusal :=
  s.ifOn (s.asked tag (.readLevelResult p) (s.onReadLevelResult p))

/-- CLEAR_ATTENTION (R158). -/
def execClearAttention (tag mask : Byte) (s : State) : Host.Outcome State Fault Refusal :=
  s.ifOn (s.asked tag (.clearAttention mask) (s.onClearAttention mask))

/-- READ_ENVELOPE (R126). -/
def execReadEnvelope (tag index : Byte) (s : State) : Host.Outcome State Fault Refusal :=
  s.ifOn (s.asked tag (.readEnvelope index) (s.onReadEnvelope index))

/-- WRITE_ENVELOPE (R126). -/
def execWriteEnvelope (tag index : Byte) (c : EnvContents) (s : State) : Host.Outcome State Fault Refusal :=
  s.ifOn (s.asked tag (.writeEnvelope index c) (s.onWriteEnvelope index c))

/-- LOCK_ENVELOPE (R127). -/
def execLockEnvelope (tag index : Byte) (s : State) : Host.Outcome State Fault Refusal :=
  s.ifOn (s.asked tag (.lockEnvelope index) (s.onLockEnvelope index))

/-- READ_WATCH (R134). -/
def execReadWatch (tag index : Byte) (s : State) : Host.Outcome State Fault Refusal :=
  s.ifOn (s.asked tag (.readWatch index) (s.onReadWatch index))

/-- WRITE_WATCH (R134). -/
def execWriteWatch (tag index : Byte) (c : WatchContents) (s : State) : Host.Outcome State Fault Refusal :=
  s.ifOn (s.asked tag (.writeWatch index c) (s.onWriteWatch index c))

/-- CLEAR_WATCH_HITS (R133). -/
def execClearWatchHits (tag mask : Byte) (s : State) : Host.Outcome State Fault Refusal :=
  s.ifOn (s.asked tag (.clearWatchHits mask) (s.onClearWatchHits mask))

/-- STORE_TABLES (R177). -/
def execStoreTables (tag : Byte) (s : State) : Host.Outcome State Fault Refusal :=
  s.ifOn (s.asked tag (.storeTables) (s.onStoreTables))

/-- CIRCUIT_TEST (R149). -/
def execCircuitTest (tag : Byte) (c : ChannelId) (s : State) : Host.Outcome State Fault Refusal :=
  s.ifOn (s.asked tag (.circuitTest c) (s.onCircuitTest c))

/-- READ_HEALTH (R153). -/
def execReadHealth (tag : Byte) (first : ChannelId) (count : Byte) (s : State) : Host.Outcome State Fault Refusal :=
  s.ifOn (s.asked tag (.readHealth first count) (s.onReadHealth first count))

/-- READ_SETTING (R175). -/
def execReadSetting (tag group item : Byte) (s : State) : Host.Outcome State Fault Refusal :=
  s.ifOn (s.asked tag (.readSetting group item) (s.onReadSetting group item))

/-- WRITE_SETTING (R175). -/
def execWriteSetting (tag group item : Byte) (v : Half) (s : State) : Host.Outcome State Fault Refusal :=
  s.ifOn (s.asked tag (.writeSetting group item v) (s.onWriteSetting group item v))

/-- LOCK_CALIBRATION (R179). -/
def execLockCalibration (tag group : Byte) (s : State) : Host.Outcome State Fault Refusal :=
  s.ifOn (s.asked tag (.lockCalibration group) (s.onLockCalibration group))

/-- ZERO_TILT (R178). -/
def execZeroTilt (tag : Byte) (s : State) : Host.Outcome State Fault Refusal :=
  s.ifOn (s.asked tag (.zeroTilt) (s.onZeroTilt))

/-- DORMANT (R181). -/
def execDormant (tag : Byte) (s : State) : Host.Outcome State Fault Refusal :=
  s.ifOn (s.asked tag (.dormant) (s.onDormant))

/-- WAKE (R183). -/
def execWake (tag : Byte) (x : SampleSet) (s : State) : Host.Outcome State Fault Refusal :=
  s.ifOn (s.asked tag (.wake) (s.onWake x))

/-- RESET (R185). -/
def execReset (tag : Byte) (s : State) : Host.Outcome State Fault Refusal :=
  s.ifOn (s.asked tag (.reset) (s.onReset))

end Sys2Proof.Machine
end

