-- ==== Sys2Proof/Machine/Sensors.lean ====
section
/-!
DEFINITION. The rows of the sensors: sample sets, jacks leaving sensor fault, encoder steps, pulses, switch changes.
-/

namespace Sys2Proof.Machine

open Sys2Proof

def State.setClock (s : State) (c : Clock) : State := { s with clock := c }

/-- The sample interval expires: the time left to it passes, and it starts again (R3, notes 2). -/
def State.sampleDue (s : State) : State :=
  let s1 := s.pass s.clock.sample
  s1.setClock { s1.clock with sample := 20 }

/-- SAMPLE_INTERVAL (R3). -/
def execSampleInterval (x : SampleSet) (order : List Consumer) (s : State) : Host.Outcome State Fault Refusal :=
  s.ifAwake (s.sampleDue.handSet x order)

/-- The fifth valid pair of a jack in sensor fault has been taken (R8). -/
def State.faultClears (s : State) (j : JackId) : Bool :=
  s.straps.hasJack j && (s.jackSense j).fault && decide (5 ≤ (s.jackSense j).validRun)

/-- JACK_SENSOR_FAULT_CLEAR (R8). -/
def execJackSensorFaultClear (j : JackId) (s : State) : Host.Outcome State Fault Refusal :=
  s.ifAwake (if s.faultClears j then s.clearFault j else s)

/-- ENCODER_STEP (R9). -/
def execEncoderStep (a : CountAxis) (outward : Bool) (s : State) : Host.Outcome State Fault Refusal :=
  s.ifAwake (s.encoder a outward)

/-- ANEMOMETER_PULSE (R14). -/
def execAnemometerPulse (s : State) : Host.Outcome State Fault Refusal := s.ifAwake s.pulse

/-- IN_STOP_CHANGE (R11). -/
def execInStopChange (r : RoomId) (d : Drive) (made : Bool) (s : State) : Host.Outcome State Fault Refusal :=
  s.ifAwake (s.tellInStop r d made)

/-- PIN_STATE_CHANGE (R58). -/
def execPinStateChange (r : RoomId) (p : PinState) (s : State) : Host.Outcome State Fault Refusal :=
  s.ifAwake (s.tellPin r p)

/-- STOWED_SWITCH_CHANGE (R85). -/
def execStowedSwitchChange (made : Bool) (s : State) : Host.Outcome State Fault Refusal :=
  s.ifAwake (s.tellStowed made)

end Sys2Proof.Machine
end

