-- ==== Sys2Proof/Machine/Chassis.lean ====
section
/-!
DEFINITION. The rows of the chassis inputs (R15, R16) and what the guard, the controllers, the arbiter and power control
do on each change (R119, R120, R93, R95, R98, R25, R183).
-/

namespace Sys2Proof.Machine

open Sys2Proof

def State.setInputs (s : State) (i : Inputs) : State := { s with inputs := i }

/-- INPUT_INTERVAL (R15), awake or dormant. -/
def execInputInterval (raw : RawInputs) (s : State) : Host.Outcome State Fault Refusal :=
  let s1 := s.pass s.clock.input
  s.ifOn ((s1.setClock { s1.clock with input := 10 }).setInputs (s.inputs.sample raw))

/-- A change of a debounced input: the line follows it, and an awake part delivers it (R15, R16, R182). -/
def State.changeInput (s : State) (happens : Bool) (i : Inputs) (deliver : State → State) : State :=
  if happens then (if s.power = .awake then deliver (s.setInputs i) else s.setInputs i) else s

/-- The groups whose permit the park brake gives, and an awning that is driven outward whatever its request (R119; notes
11). -/
def State.brakeGroups (s : State) : List Group :=
  s.presentGroups.filter fun g => decide (g ≠ .awning) || s.awningExtending || s.drivenOut .awning

/-- Park brake released (R119, R93): operations end with INTERLOCK, and a drive-away stow is due. -/
def State.brakeLost (s : State) : State := (s.endMoves s.brakeGroups .interlock).driveAway

/-- PARK_BRAKE_RELEASED. -/
def execParkBrakeReleased (s : State) : Host.Outcome State Fault Refusal :=
  s.ifOn
    (s.changeInput (s.inputs.parkSet.changes false) { s.inputs with parkSet := s.inputs.parkSet.becomesLow false }
      State.brakeLost)

/-- PARK_BRAKE_SET: the permit is there again, and nothing else happens (R119). -/
def execParkBrakeSet (s : State) : Host.Outcome State Fault Refusal :=
  s.ifOn
    (s.changeInput (s.inputs.parkSet.changes true) { s.inputs with parkSet := s.inputs.parkSet.becomesLow true } id)

/-- Ignition on, awake (R119, R93): an awning extension ends with INTERLOCK, and a drive-away stow is due. -/
def State.ignitionGained (s : State) : State :=
  let s1 : State := { s with link := { s.link with ignitionSeen := true } }
  (if s1.awningExtending then s1.settled (s1.endAwning .interlock) else s1).driveAway

/-- IGNITION_ON (R15): wakes a dormant part (R183). -/
def execIgnitionOn (x : SampleSet) (s : State) : Host.Outcome State Fault Refusal :=
  let i : Inputs := { s.inputs with ignition := s.inputs.ignition.becomesHigh true }
  let happens := s.inputs.ignition.changes true
  s.ifOn
    (match s.power with
      | .dormant => if happens then (s.setInputs i).wakeUp x else s
      | _ => s.changeInput happens i State.ignitionGained)

/-- IGNITION_OFF (R119): JACKS operations end with INTERLOCK. -/
def execIgnitionOff (s : State) : Host.Outcome State Fault Refusal :=
  s.ifOn
    (s.changeInput (s.inputs.ignition.changes false) { s.inputs with ignition := s.inputs.ignition.becomesHigh false }
      fun t => t.endMoves [.jacks] .interlock)

/-- The inputs after a change of engine running or of charging. -/
def Inputs.toggled (i : Inputs) (charging : Bool) : Inputs :=
  if charging then { i with charging := i.charging.becomesHigh (!i.charging.level) }
  else { i with engine := i.engine.becomesHigh (!i.engine.level) }

def Inputs.toggles (i : Inputs) (charging : Bool) : Bool :=
  if charging then i.charging.changes (!i.charging.level) else i.engine.changes (!i.engine.level)

/-- ENGINE_OR_CHARGING_CHANGE (R98). -/
def execEngineOrChargingChange (charging : Bool) (s : State) : Host.Outcome State Fault Refusal :=
  s.ifOn (s.changeInput (s.inputs.toggles charging) (s.inputs.toggled charging) fun t => t.settled t.rebase)

/-- The run acts on the air-dumped input in its later phases, suspended from them too (R25). -/
def State.needsDumped (s : State) : Bool :=
  match s.jk.st.work? with
  | some (.levelling .airDump) => false
  | some (.levelling _) => true
  | _ => false

/-- Air dumped changes (R25): true ends AIR_DUMP, false aborts a later phase; without air suspension nothing (R15). -/
def State.airChanged (s : State) : State :=
  if !s.straps.airsusp then s
  else if s.inputs.airDumped.level then s.settled s.airDumpIfReady
  else if s.needsDumped then s.settled (s.endJacks .airNotDumped)
  else s

/-- AIR_DUMPED_CHANGE (R25). -/
def execAirDumpedChange (s : State) : Host.Outcome State Fault Refusal :=
  s.ifOn
    (s.changeInput (s.inputs.airDumped.changes (!s.inputs.airDumped.level))
      { s.inputs with airDumped := s.inputs.airDumped.becomesHigh (!s.inputs.airDumped.level) } State.airChanged)

/-- The key is on (R120, R95): every operation ends with INTERLOCK, and a stow becomes pending. -/
def State.keyGained (s : State) : State := (s.endMoves s.presentGroups .interlock).keyEndsStow.restance

/-- LOCKOUT_KEY_ON (R120). -/
def execLockoutKeyOn (s : State) : Host.Outcome State Fault Refusal :=
  s.ifOn
    (s.changeInput (s.inputs.keyOff.changes false) { s.inputs with keyOff := s.inputs.keyOff.becomesLow false }
      State.keyGained)

/-- LOCKOUT_KEY_OFF (R95): a pending stow is taken up. -/
def execLockoutKeyOff (s : State) : Host.Outcome State Fault Refusal :=
  s.ifOn
    (s.changeInput (s.inputs.keyOff.changes true) { s.inputs with keyOff := s.inputs.keyOff.becomesLow true }
      State.takeUpStow)

end Sys2Proof.Machine
end

