-- ==== Sys2Proof/Machine/Channels.lean ====
section
/-!
DEFINITION. The rows of the channel monitor: readings (R143), trips and open circuits (R144, R145), stalls (R61, R86),
and the two readings of a circuit test (R150, R152).
-/

namespace Sys2Proof.Machine

open Sys2Proof

/-- The current at which a channel's owner judges a stall, mA: room drives and the awning alone (R61, R86). -/
def State.stallCurrent (s : State) : ChannelId → Option Nat
  | .drive r _ => some ((s.room r).cap.cal.stall.toNat * 1000)
  | .awning => some 12000
  | _ => none

/-- A run of readings that meet a condition. -/
def runOf (n : Nat) (b : Bool) : Nat := if b then n + 1 else 0

/-- One reading of a DRIVEN channel (R143 to R145): measurements count, the peak follows. -/
def Channel.read (x : Channel) (c : ChannelId) (stall : Option Nat) (mA : Nat) : Channel :=
  if x.isDriven then
    let m := min 300000 mA
    { x with
      reading := m
      tripRun := runOf x.tripRun (decide (c.tripCurrent ≤ m))
      openRun := runOf x.openRun (decide (40 ≤ x.duty) && decide (m < c.openThreshold))
      stallRun := runOf x.stallRun (stall.any fun a => decide (a ≤ m))
      peak := max x.peak m }
  else x

def State.readChannels (s : State) (v : PerChannel Nat) : State :=
  { s with ch := .tab fun c =>
    if s.straps.hasChannel c then (s.chan c).read c (s.stallCurrent c) (v.get c) else s.chan c }

/-- CHANNEL_READING_INTERVAL (R143). -/
def execChannelReadingInterval (v : PerChannel Nat) (s : State) : Host.Outcome State Fault Refusal :=
  let s1 := s.pass s.clock.reading
  s.ifAwake ((s1.setClock { s1.clock with reading := 5 }).readChannels v)

/-- One entry of the health table written. -/
def State.setHealth (s : State) (c : ChannelId) (h : Health) : State := { s with health := s.health.set c h }

/-- The fault of a channel: OFF, the pump following, the health result, the owner's end (R144, R145). -/
def State.channelFault (s : State) (c : ChannelId) (h : HealthClass) : State :=
  let s1 := (s.off c).setHealth c { s.health.get c with result := h }
  let s2 :=
    match c with
    | .valve _ => s1.pumpFollow
    | _ => s1
  s2.settled (s2.endGroup c.owner (.circuitFault c))

/-- OVERCURRENT_TRIP (R144): the measurement is complete on a DRIVEN channel. -/
def execOvercurrentTrip (c : ChannelId) (s : State) : Host.Outcome State Fault Refusal :=
  s.ifAwake (if s.driven c && decide (tripSamples ≤ (s.chan c).tripRun) then s.channelFault c .short else s)

/-- OPEN_CIRCUIT (R145). -/
def execOpenCircuit (c : ChannelId) (s : State) : Host.Outcome State Fault Refusal :=
  s.ifAwake (if s.driven c && decide (openSamples ≤ (s.chan c).openRun) then s.channelFault c .open else s)

/-- A drive has stalled (R61, R86). -/
def State.stalled (s : State) (c : ChannelId) : Bool := s.driven c && decide (stallSamples ≤ (s.chan c).stallRun)

/-- ROOM_DRIVE_STALL (R61). -/
def execRoomDriveStall (r : RoomId) (d : Drive) (s : State) : Host.Outcome State Fault Refusal :=
  s.ifAwake (if s.stalled (.drive r d) && s.roomMoving r then s.settled (s.roomStalls r d) else s)

/-- AWNING_STALL (R86). -/
def execAwningStall (s : State) : Host.Outcome State Fault Refusal :=
  s.ifAwake (if s.stalled .awning then s.settled (s.endAwning .obstruction) else s)

/-- The channel under test shows the reading's current (R153). -/
def State.showTest (s : State) (t : CircuitTest) (mA : Nat) : State :=
  s.setChan t.chan { s.chan t.chan with reading := min 300000 mA }

/-- TEST_READING_A (R150): 100 ms of the test have passed. -/
def execTestReadingA (mA mV : Nat) (s : State) : Host.Outcome State Fault Refusal :=
  s.ifAwake
    (match s.test with
      | some t =>
        if t.readingA.isSome then s
        else
          let s1 := (s.pass (t.left - 100)).showTest t mA
          { s1 with test := some { t with left := min t.left 100, readingA := some (s1.testReading mA mV) } }
      | none => s)

/-- TEST_COMPLETE (R152): reading B at the end of the test timer, after reading A. -/
def execTestComplete (mA mV : Nat) (s : State) : Host.Outcome State Fault Refusal :=
  s.ifAwake
    (match s.test with
      | some t =>
        match t.readingA with
        | some a =>
          let s1 := s.pass t.left
          s1.settled (s1.completeTest t a (s1.testReading mA mV))
        | none => s
      | none => s)

end Sys2Proof.Machine
end

