-- ==== Sys2Proof/Machine/Timers.lean ====
section
/-!
DEFINITION. The rows of the timers and of the voltage measurements. A timer's command lets the time left to its expiry
pass (notes 2) and does nothing where the timer does not run; a measurement's command needs its measurement complete
(notes 3).
-/

namespace Sys2Proof.Machine

open Sys2Proof

/-- A timer runs out: the time left to it passes first. A timer that does not run has no expiry. -/
def State.expire (s : State) (left : Option Nat) (f : State → State) : State :=
  match left with
  | some d => f (s.pass d)
  | none => s

/-- An end with the walk and the stance it owes. -/
def State.ended (s : State) (g : Group) (reason : Reason) : State := s.settled (s.endGroup g reason)

/-! ## Rooms -/

/-- CONTROL_INTERVAL (R60). -/
def execControlInterval (r : RoomId) (s : State) : Host.Outcome State Fault Refusal :=
  s.ifAwake
    (s.expire (s.room r).ctrlLeft fun t =>
      let t1 := t.setRoom r { t.room r with ctrlLeft := some controlMs }
      if t1.roomMoving r then t1.correctDuties r else t1)

/-- The pin timer runs out (R58, R65, R78): in SETTLING the room is IN, and a Home's counts are zeroed. -/
def State.pinFails (s : State) (r : RoomId) : State :=
  match (s.room r).st with
  | .work .settling => s.roomArrivesIn r .pinFault
  | _ => s.endRoom r .pinFault

/-- PIN_TIMER (R58). -/
def execPinTimer (r : RoomId) (s : State) : Host.Outcome State Fault Refusal :=
  s.ifAwake (s.expire (s.room r).pinLeft fun t => t.settled (t.pinFails r))

/-- The hold timer of a jog has run out (R49). -/
def State.jogHoldOut (s : State) : State :=
  let s1 : State := { s with jk := { s.jk with holdLeft := none } }
  if s1.jk.causes.freeze then { s1 with jk := { s1.jk with lapsed := true } } else s1.lapseJog

/-- The hold timer of a room has run out (R69). -/
def State.roomHoldOut (s : State) (r : RoomId) : State :=
  let s1 := s.setRoom r { s.room r with holdLeft := none }
  if (s1.room r).causes.freeze then s1.setRoom r { s1.room r with lapsed := true } else s1.lapseRoom r

/-- HOLD_TIMER (R49, R69). -/
def execHoldTimer (a : HoldAxis) (s : State) : Host.Outcome State Fault Refusal :=
  s.ifAwake
    (match a with
      | .jog => s.expire s.jk.holdLeft fun t => t.settled t.jogHoldOut
      | .room r => s.expire (s.room r).holdLeft fun t => t.settled (t.roomHoldOut r))

/-- RESUME_WINDOW (R49, R70). -/
def execResumeWindow (a : HoldAxis) (s : State) : Host.Outcome State Fault Refusal :=
  s.ifAwake
    (match a with
      | .jog => s.expire s.jk.resumeLeft fun t => t.ended .jacks .holdExpired
      | .room r => s.expire (s.room r).resumeLeft fun t => t.ended (.room r) .holdExpired)

/-- The time until a run time that counts reaches its limit; none while it does not count. -/
def untilLimit (counts : Bool) (limit run : Nat) : Option Nat := if counts then some (limit - run) else none

/-- ROOM_TIME_BUDGET (R62). -/
def execRoomTimeBudget (r : RoomId) (s : State) : Host.Outcome State Fault Refusal :=
  s.ifAwake
    (s.expire (untilLimit (s.roomMoving r && s.anyDrive r) (s.room r).budget (s.room r).runMs) fun t =>
      t.ended (.room r) .timeout)

/-! ## Awning and wind -/

/-- AWNING_RUN_TIME (R86). -/
def execAwningRunTime (s : State) : Host.Outcome State Fault Refusal :=
  s.ifAwake (s.expire (untilLimit (s.driven .awning) awningBudget s.aw.runMs) fun t => t.ended .awning .timeout)

/-- A bound that FREEZE stops (R37, R88). -/
def boundLeft (freeze : Bool) (left : Option Nat) : Option Nat := if freeze then none else left

/-- AWNING_SUPPLY_WAIT_BOUND (R84). -/
def execAwningSupplyWaitBound (s : State) : Host.Outcome State Fault Refusal :=
  s.ifAwake (s.expire (boundLeft s.aw.causes.freeze s.aw.waitLeft) fun t => t.ended .awning .supplyTimeout)

/-- AWNING_SUSPENSION_BOUND (R88). -/
def execAwningSuspensionBound (s : State) : Host.Outcome State Fault Refusal :=
  s.ifAwake (s.expire (boundLeft s.aw.causes.freeze s.aw.suspLeft) fun t => t.ended .awning .supplyTimeout)

/-- The gust, the ring and sustained of a window (R90). -/
def Wind.window (w : Wind) (speed : Int) : Wind :=
  let ring := pushRing 12 w.ring speed
  { w with ring := ring, gust := speed, sustained := if ring.length = 12 then some (ring.sum / 12) else none }

/-- The wind condition (R91). -/
def Wind.condition (w : Wind) (a : AwningRun) : Bool :=
  decide (a.gustStow ≤ w.gust) || w.sustained.any fun x => decide (a.sustainedStow ≤ x)

/-- The quiet count at a window without the wind condition: on sustained, up to the count that ends the lockout (R91). -/
def Wind.quietAfter (w : Wind) (a : AwningRun) : Nat :=
  match w.sustained with
  | some x => if x < a.release then min (w.quiet + 1) (max w.quiet (w.lockTime * 4)) else 0
  | none => w.quiet

/-- The lockout at a window (R91): at the wind condition it comes on with its captured time and a quiet count of 0, or
stays on with both as they stand; at any other window under lockout quiet windows are counted (notes 20). -/
def Wind.lock (w : Wind) (a : AwningRun) : Wind :=
  if w.condition a then
    if w.lockout then w else { w with lockout := true, quiet := 0, lockTime := a.lockoutTime.toNat }
  else if w.lockout then { w with quiet := w.quietAfter a }
  else w

/-- A wind condition at a window (R91, R92, R120): SUPERVISION, the stow that is due, and the end of an extension that
has not left its switch. -/
def State.windBlows (s : State) (came : Bool) : State :=
  let s1 := s.joinSupervision SupCauses.addWind
  let s2 := if !s1.stowed then s1.stowDue .wind else s1
  if came && s2.awningExtending then s2.settled (s2.endAwning .wind) else s2

/-- The wind speed of the window: pulses × K, clamped (R90). -/
def State.windSpeed (s : State) : Int := clampInt 0 600 (s.fe.pulses * s.store.active.awningCal.pulseFactor)

def Fresh.windOnly : Fresh := { set := false, tilt := false, jacks := .all false, wind := true }

/-- One wind window (R90): the values, the watches, then the lockout and the stow. -/
def State.windWindow (s : State) : State :=
  let s1 : State := { s with wind := s.wind.window s.windSpeed, fe := { s.fe with pulses := 0 } }
  let s2 := s1.watchSample s1 .windOnly
  let a := s2.store.active.awningRun
  let came := !s2.wind.lockout && s2.wind.condition a
  let s3 : State := { s2 with wind := s2.wind.lock a }
  if s2.wind.condition a then s3.windBlows came else s3

/-- WIND_WINDOW (R90). -/
def execWindWindow (s : State) : Host.Outcome State Fault Refusal :=
  let s1 := s.pass s.clock.wind
  s.ifAwake (if s.straps.awning then (s1.setClock { s1.clock with wind := 250 }).windWindow else s)

/-- WIND_LOCKOUT_OFF (R91): the quiet count has reached the captured lockout time over 250 ms. -/
def execWindLockoutOff (s : State) : Host.Outcome State Fault Refusal :=
  s.ifAwake
    (if s.wind.lockout && decide (s.wind.lockTime * 4 ≤ s.wind.quiet) then { s with wind := { s.wind with lockout := false } }
    else s)

/-! ## Levelling -/

/-- AIR_DUMP_WAIT (R25). -/
def execAirDumpWait (s : State) : Host.Outcome State Fault Refusal :=
  s.ifAwake (s.expire (boundLeft s.jk.causes.freeze s.jk.airLeft) fun t => t.ended .jacks .airNotDumped)

/-- SUPPLY_WAIT_BOUND (R26). -/
def execSupplyWaitBound (s : State) : Host.Outcome State Fault Refusal :=
  s.ifAwake (s.expire (boundLeft s.jk.causes.freeze s.jk.waitLeft) fun t => t.ended .jacks .supplyTimeout)

/-- SUSPENSION_BOUND (R36). -/
def execSuspensionBound (s : State) : Host.Outcome State Fault Refusal :=
  s.ifAwake (s.expire (boundLeft s.jk.causes.freeze s.jk.suspLeft) fun t => t.ended .jacks .supplyTimeout)

/-- The settle timer has run out (R33): the tilt is read now, or at the first new sample. -/
def State.settleOut (s : State) : State :=
  let s1 : State := { s with jk := { s.jk with settleLeft := none } }
  if s1.filterFull then s1.judgeSettle else { s1 with jk := { s1.jk with tiltWait := true } }

/-- SETTLE_TIMER (R33). -/
def execSettleTimer (s : State) : Host.Outcome State Fault Refusal :=
  s.ifAwake (s.expire s.jk.settleLeft fun t => t.settled t.settleOut)

/-- A step settle has run out (R35), read as R33 reads. -/
def State.stepOut (s : State) : State :=
  let s1 : State := { s with jk := { s.jk with stepLeft := none } }
  match s1.jk.step with
  | some p => if s1.filterFull then s1.judgeStep p else { s1 with jk := { s1.jk with tiltWait := true } }
  | none => s1

/-- STEP_SETTLE (R35). -/
def execStepSettle (s : State) : Host.Outcome State Fault Refusal :=
  s.ifAwake (s.expire s.jk.stepLeft fun t => t.settled t.stepOut)

/-- The time to the run limit of LEVEL AUTO or LEVEL STOW, which does not count while SUSPENDED (R39). -/
def Levelling.limitLeft (j : Levelling) : Option Nat :=
  match j.st with
  | .work .jogging => none
  | .work w => some (w.limit - j.runMs)
  | _ => none

/-- RUN_TIMER (R39). -/
def execRunTimer (s : State) : Host.Outcome State Fault Refusal :=
  s.ifAwake (s.expire s.jk.limitLeft fun t => t.ended .jacks .timeout)

/-- The time to the jog's run-time budget, which counts while its valve is driven (R48). -/
def State.jogLeft (s : State) : Option Nat :=
  match s.jk.jog with
  | some g => untilLimit (decide (s.jk.st = .work .jogging) && s.driven (.valve g.jack)) jogBudget g.runMs
  | none => none

/-- JOG_RUN_TIME_BUDGET (R48). -/
def execJogRunTimeBudget (s : State) : Host.Outcome State Fault Refusal :=
  s.ifAwake (s.expire s.jogLeft fun t => t.ended .jacks .timeout)

/-- The drift timer has run out (R44): the tilt is read now, or at the first new sample. -/
def State.driftOut (s : State) : State :=
  let s1 : State := { s with jk := { s.jk with driftLeft := none } }
  if s1.filterFull then s1.driftCheck else { s1 with jk := { s1.jk with driftWait := true } }

/-- DRIFT_TIMER (R44). -/
def execDriftTimer (s : State) : Host.Outcome State Fault Refusal :=
  s.ifAwake (s.expire s.jk.driftLeft fun t => t.driftOut.restance)

/-! ## Voltage measurements (R99 to R102) -/

def State.modArb (s : State) (f : Arbiter → Arbiter) : State := { s with arb := f s.arb }

/-- The level rises by one, below 3, and SUPERVISION joins (R99). -/
def State.sagged (s : State) : State :=
  let s1 := s.modArb fun a => { a with sagRun := 1 }
  if s1.arb.level < 3 then
    let s2 := s1.joinSupervision SupCauses.addBudget
    s2.settled (s2.setLevel (s2.arb.level + 1))
  else s1

/-- SAG_COMPLETE (R99). -/
def execSagComplete (s : State) : Host.Outcome State Fault Refusal :=
  s.ifAwake (if !s.arb.grants.isEmpty && decide (sagSamples ≤ s.arb.sagRun) then s.sagged else s)

/-- The level falls by one, above 0, and the list is walked (R100). -/
def State.recovered (s : State) : State :=
  let s1 := s.modArb fun a => { a with recRun := 1 }
  if 0 < s1.arb.level then s1.settled (s1.setLevel (s1.arb.level - 1)) else s1

/-- RECOVERY_COMPLETE (R100). -/
def execRecoveryComplete (s : State) : Host.Outcome State Fault Refusal :=
  s.ifAwake (if recoverySamples ≤ s.arb.recRun then s.recovered else s)

/-- LOW_VOLTAGE is entered: SUPERVISION joins, and every operation but a stow or a test ends (R101). -/
def State.lowEntered (s : State) : State :=
  let s1 := s.modArb fun a => { a with lowVoltage := true, entRun := 0 }
  let s2 := s1.joinSupervision SupCauses.addLowVoltage
  s2.endMoves s2.presentGroups .lowVoltage

/-- LOW_VOLTAGE_ENTRY (R101). -/
def execLowVoltageEntry (s : State) : Host.Outcome State Fault Refusal :=
  s.ifAwake (if !s.arb.lowVoltage && decide (entrySamples ≤ s.arb.entRun) then s.lowEntered else s)

/-- LOW_VOLTAGE_EXIT (R102). -/
def execLowVoltageExit (s : State) : Host.Outcome State Fault Refusal :=
  s.ifAwake
    (if s.arb.lowVoltage && decide (exitSamples ≤ s.arb.exitRun) then
      s.modArb fun a => { a with lowVoltage := false, exitRun := 0 }
    else s)

/-! ## The store -/

/-- The write in flight is complete (R175, R177 to R179); a changed TILT_CAL offset empties the ring (R6). -/
def State.storeDone (s : State) (j : StoreJob) : State :=
  let s1 : State := { s with store := s.store.completed }
  if s.jobEmptiesRing j then s1.emptyRing else s1

/-- STORE_WRITE_COMPLETE (R175). -/
def execStoreWriteComplete (s : State) : Host.Outcome State Fault Refusal :=
  s.ifAwake
    (match s.store.job with
      | some p => (s.pass p.2).storeDone p.1
      | none => s)

end Sys2Proof.Machine
end

