-- ==== Sys2Proof/Machine/Dispatch.lean ====
section
/-!
DEFINITION. The meaning of each command, one arm per row of spec/opcode_table.json.
-/

namespace Sys2Proof.Machine

open Sys2Proof

def exec (i : Instr) (s : State) : Host.Outcome State Fault Refusal :=
  match i with
  | .powerOn pins raw set => Sys2Proof.Machine.execPowerOn pins raw set s
  | .frameReceived bytes => Sys2Proof.Machine.execFrameReceived bytes s
  | .interByteGapTimeout got => Sys2Proof.Machine.execInterByteGapTimeout got s
  | .requestTaken set => Sys2Proof.Machine.execRequestTaken set s
  | .frameTransmitComplete raw set => Sys2Proof.Machine.execFrameTransmitComplete raw set s
  | .identify tag => Sys2Proof.Machine.execIdentify tag s
  | .readCapability tag offset count => Sys2Proof.Machine.execReadCapability tag offset count s
  | .readStatus tag => Sys2Proof.Machine.execReadStatus tag s
  | .readCounters tag => Sys2Proof.Machine.execReadCounters tag s
  | .move tag r e v => Sys2Proof.Machine.execMove tag r e v s
  | .jog tag j v => Sys2Proof.Machine.execJog tag j v s
  | .awningMove tag e v => Sys2Proof.Machine.execAwningMove tag e v s
  | .hold tag mask => Sys2Proof.Machine.execHold tag mask s
  | .stop tag mask => Sys2Proof.Machine.execStop tag mask s
  | .home tag r => Sys2Proof.Machine.execHome tag r s
  | .awningHome tag => Sys2Proof.Machine.execAwningHome tag s
  | .levelAuto tag => Sys2Proof.Machine.execLevelAuto tag s
  | .levelStow tag => Sys2Proof.Machine.execLevelStow tag s
  | .resume tag mask => Sys2Proof.Machine.execResume tag mask s
  | .readGroup tag g => Sys2Proof.Machine.execReadGroup tag g s
  | .readStopRecord tag g => Sys2Proof.Machine.execReadStopRecord tag g s
  | .readLevelResult tag p => Sys2Proof.Machine.execReadLevelResult tag p s
  | .clearAttention tag mask => Sys2Proof.Machine.execClearAttention tag mask s
  | .readEnvelope tag index => Sys2Proof.Machine.execReadEnvelope tag index s
  | .writeEnvelope tag index c => Sys2Proof.Machine.execWriteEnvelope tag index c s
  | .lockEnvelope tag index => Sys2Proof.Machine.execLockEnvelope tag index s
  | .readWatch tag index => Sys2Proof.Machine.execReadWatch tag index s
  | .writeWatch tag index c => Sys2Proof.Machine.execWriteWatch tag index c s
  | .clearWatchHits tag mask => Sys2Proof.Machine.execClearWatchHits tag mask s
  | .storeTables tag => Sys2Proof.Machine.execStoreTables tag s
  | .circuitTest tag c => Sys2Proof.Machine.execCircuitTest tag c s
  | .readHealth tag first count => Sys2Proof.Machine.execReadHealth tag first count s
  | .readSetting tag group item => Sys2Proof.Machine.execReadSetting tag group item s
  | .writeSetting tag group item v => Sys2Proof.Machine.execWriteSetting tag group item v s
  | .lockCalibration tag group => Sys2Proof.Machine.execLockCalibration tag group s
  | .zeroTilt tag => Sys2Proof.Machine.execZeroTilt tag s
  | .dormant tag => Sys2Proof.Machine.execDormant tag s
  | .wake tag set => Sys2Proof.Machine.execWake tag set s
  | .reset tag => Sys2Proof.Machine.execReset tag s
  | .sampleInterval set order => Sys2Proof.Machine.execSampleInterval set order s
  | .jackSensorFaultClear j => Sys2Proof.Machine.execJackSensorFaultClear j s
  | .encoderStep a outward => Sys2Proof.Machine.execEncoderStep a outward s
  | .anemometerPulse => Sys2Proof.Machine.execAnemometerPulse s
  | .inStopChange r d made => Sys2Proof.Machine.execInStopChange r d made s
  | .pinStateChange r p => Sys2Proof.Machine.execPinStateChange r p s
  | .stowedSwitchChange made => Sys2Proof.Machine.execStowedSwitchChange made s
  | .parkBrakeReleased => Sys2Proof.Machine.execParkBrakeReleased s
  | .parkBrakeSet => Sys2Proof.Machine.execParkBrakeSet s
  | .ignitionOn set => Sys2Proof.Machine.execIgnitionOn set s
  | .ignitionOff => Sys2Proof.Machine.execIgnitionOff s
  | .engineOrChargingChange charging => Sys2Proof.Machine.execEngineOrChargingChange charging s
  | .airDumpedChange => Sys2Proof.Machine.execAirDumpedChange s
  | .lockoutKeyOn => Sys2Proof.Machine.execLockoutKeyOn s
  | .lockoutKeyOff => Sys2Proof.Machine.execLockoutKeyOff s
  | .channelReadingInterval readings => Sys2Proof.Machine.execChannelReadingInterval readings s
  | .overcurrentTrip c => Sys2Proof.Machine.execOvercurrentTrip c s
  | .openCircuit c => Sys2Proof.Machine.execOpenCircuit c s
  | .roomDriveStall r d => Sys2Proof.Machine.execRoomDriveStall r d s
  | .awningStall => Sys2Proof.Machine.execAwningStall s
  | .controlInterval r => Sys2Proof.Machine.execControlInterval r s
  | .pinTimer r => Sys2Proof.Machine.execPinTimer r s
  | .holdTimer a => Sys2Proof.Machine.execHoldTimer a s
  | .resumeWindow a => Sys2Proof.Machine.execResumeWindow a s
  | .roomTimeBudget r => Sys2Proof.Machine.execRoomTimeBudget r s
  | .awningRunTime => Sys2Proof.Machine.execAwningRunTime s
  | .awningSupplyWaitBound => Sys2Proof.Machine.execAwningSupplyWaitBound s
  | .awningSuspensionBound => Sys2Proof.Machine.execAwningSuspensionBound s
  | .windWindow => Sys2Proof.Machine.execWindWindow s
  | .windLockoutOff => Sys2Proof.Machine.execWindLockoutOff s
  | .airDumpWait => Sys2Proof.Machine.execAirDumpWait s
  | .supplyWaitBound => Sys2Proof.Machine.execSupplyWaitBound s
  | .suspensionBound => Sys2Proof.Machine.execSuspensionBound s
  | .settleTimer => Sys2Proof.Machine.execSettleTimer s
  | .stepSettle => Sys2Proof.Machine.execStepSettle s
  | .runTimer => Sys2Proof.Machine.execRunTimer s
  | .jogRunTimeBudget => Sys2Proof.Machine.execJogRunTimeBudget s
  | .driftTimer => Sys2Proof.Machine.execDriftTimer s
  | .sagComplete => Sys2Proof.Machine.execSagComplete s
  | .recoveryComplete => Sys2Proof.Machine.execRecoveryComplete s
  | .lowVoltageEntry => Sys2Proof.Machine.execLowVoltageEntry s
  | .lowVoltageExit => Sys2Proof.Machine.execLowVoltageExit s
  | .testReadingA mA mV => Sys2Proof.Machine.execTestReadingA mA mV s
  | .testComplete mA mV => Sys2Proof.Machine.execTestComplete mA mV s
  | .storeWriteComplete => Sys2Proof.Machine.execStoreWriteComplete s
  | .inputInterval raw => Sys2Proof.Machine.execInputInterval raw s
  | .framingFault got cause => Sys2Proof.Machine.execFramingFault got cause s
  | .powerLoss torn => Sys2Proof.Machine.execPowerLoss torn s

end Sys2Proof.Machine
end

