-- ==== Sys2Proof/Machine/Step.lean ====
section
/-!
DEFINITION. One step: the command at the front of the queue is carried out on the state with the rest of the queue.
-/

namespace Sys2Proof.Machine

open Sys2Proof

/-- The state with its first waiting command taken out of the queue. -/
def State.popped (s : State) : State := { s with pending := s.pending.drop 1 }

/-- The oldest waiting command is carried out; with none waiting the part idles (notes 1). -/
def step (s : State) : Host.Outcome State Fault Refusal :=
  match s.pending with
  | [] => .next s
  | c :: _ => exec c s.popped

/-- The state with the command that a table word spells put at the front of the queue; the table gives its rows no bits,
so every word spells none and the state stays as it is. -/
def State.withFetchWord (s : State) (nbits w : Nat) : State :=
  match decodeTableWord nbits w with
  | some c => { s with pending := c :: s.pending }
  | none => s

end Sys2Proof.Machine
end

