-- ==== Sys2Proof/Safety.lean ====
section
/-!
DEFINITION. The terms in which the statements about the part are made: a part ready for a request and its reply, what an
end of an operation leaves, the command that a request of the queue stands for, the record layouts of 9.6 written out, and
the invariants of every step.
-/

namespace Sys2Proof

/-- The row of the table that a request stands for; `x` is the first sample set of a waking. -/
def Request.row (q : Request) (tag : Byte) (x : SampleSet) : Instr :=
  match q with
  | .identify => .identify tag
  | .readCapability o n => .readCapability tag o n
  | .readStatus => .readStatus tag
  | .readCounters => .readCounters tag
  | .roomMove r e v => .move tag r e v
  | .jog j v => .jog tag j v
  | .awningMove e v => .awningMove tag e v
  | .hold m => .hold tag m
  | .stop m => .stop tag m
  | .roomHome r => .home tag r
  | .awningHome => .awningHome tag
  | .levelAuto => .levelAuto tag
  | .levelStow => .levelStow tag
  | .resume m => .resume tag m
  | .readGroup g => .readGroup tag g
  | .readStopRecord g => .readStopRecord tag g
  | .readLevelResult p => .readLevelResult tag p
  | .clearAttention m => .clearAttention tag m
  | .readEnvelope i => .readEnvelope tag i
  | .writeEnvelope i c => .writeEnvelope tag i c
  | .lockEnvelope i => .lockEnvelope tag i
  | .readWatch i => .readWatch tag i
  | .writeWatch i c => .writeWatch tag i c
  | .clearWatchHits m => .clearWatchHits tag m
  | .storeTables => .storeTables tag
  | .circuitTest c => .circuitTest tag c
  | .readHealth c n => .readHealth tag c n
  | .readSetting g i => .readSetting tag g i
  | .writeSetting g i v => .writeSetting tag g i v
  | .lockCalibration g => .lockCalibration tag g
  | .zeroTilt => .zeroTilt tag
  | .dormant => .dormant tag
  | .wake => .wake tag x
  | .reset => .reset tag

/-- The frame in which a request stands in the queue. -/
def Request.frame (q : Request) (tag : Byte) : Machine.RequestFrame :=
  { kind := byteNum q.kind, tag := tag, payload := q.payload }

end Sys2Proof

namespace Sys2Proof.Machine

open Sys2Proof

/-! ## Requests and replies (R167, R168, R170) -/

/-- An awake part whose link port can take a request: the reply slot is empty, and no DORMANT or RESET reply is on its
way (R167, R181). -/
def State.ready (s : State) : Prop := s.power = .awake ∧ s.link.slot = none ∧ s.ending = false

/-- A reply frame: kind + 0x80, the tag, the payload (R170). -/
def replyOf (kind tag : Byte) (payload : List Byte) : SentFrame :=
  { kind := kind + 0x80, tag := tag, payload := payload, after := .nothing }

/-- The state with one more frame to send: sent at once on a free transmit path, and in the reply slot behind a frame
that is being sent (R167, R168). -/
def State.replying (s : State) (f : SentFrame) : State :=
  match s.link.tx with
  | none => { s with link := { s.link with tx := some f, slot := none } }
  | some _ => { s with link := { s.link with slot := some f } }

/-- The reply `f` has been given: it is being sent, or it stands in the slot behind the frame that `s` was sending. -/
def State.hasReply (s t : State) (f : SentFrame) : Prop :=
  match s.link.tx with
  | none => t.link.tx = some f ∧ t.link.slot = none
  | some g => t.link.tx = some g ∧ t.link.slot = some f

/-! ## The record layouts (9.6, with the codes of 9.4)

Written out from the tables of the manual, apart from the records that the replies are made of (Machine/Reports.lean).
The bits and bytes that the manual leaves open are those of notes 12. -/

/-- The number whose bits are given, bit 0 first. -/
def bitsNat : List Bool → Nat
  | [] => 0
  | b :: bs => (if b then 1 else 0) + 2 * bitsNat bs

/-- A byte of flags, bit 0 first. -/
def flags (bits : List Bool) : Byte := byteNum (bitsNat bits)

/-- A two-byte field that may be missing: 0xFFFF then. -/
def word? : Option Int → List Byte
  | some v => bytes2 v
  | none => [0xFF, 0xFF]

/-- A one-byte field that may be missing: 0xFF then. -/
def octet? : Option Int → Byte
  | some v => byteNum v.toNat
  | none => 0xFF

/-- The group codes. -/
def groupNum : Group → Nat
  | .jacks => 0
  | .room r => r.num + 1
  | .awning => 5

/-- The phase codes. -/
def phaseNum : JackWork → Nat
  | .levelling .airDump => 0
  | .levelling .touchdown => 1
  | .levelling .drive => 2
  | .levelling .settle => 3
  | .levelling .loadCheck => 4
  | _ => 0

/-- The JACKS state byte, the phase in its low four bits. -/
def jacksByte : JackState → Byte
  | .idle .retracted => 0x00
  | .idle .down => 0x10
  | .idle .levelled => 0x20
  | .idle .drifted => 0x30
  | .work (.levelling p) => byteNum (0x40 + phaseNum (.levelling p))
  | .work .stowing => 0x50
  | .work .jogging => 0x60
  | .suspended w => byteNum (0x70 + phaseNum w)
  | .testing _ => 0x80

/-- The remembered state of JACKS, 0xFF with none. -/
def jacksLeft : JackState → Byte
  | .suspended w => jacksByte (.work w)
  | .testing i => jacksByte (.idle i)
  | _ => 0xFF

/-- The room state byte. -/
def roomByte : RoomState → Byte
  | .idle => 0x00
  | .work .waitSupply => 0x10
  | .work .preparing => 0x20
  | .work .moving => 0x30
  | .suspended _ => 0x40
  | .work .settling => 0x50
  | .testing => 0x60

/-- The remembered state of a room, 0xFF with none. -/
def roomLeft : RoomState → Byte
  | .suspended w => roomByte (.work w)
  | _ => 0xFF

/-- The awning state byte. -/
def awningByte : AwningState → Byte
  | .idle => 0x00
  | .work .waitSupply => 0x10
  | .work .moving => 0x20
  | .suspended _ => 0x30
  | .work .stowing => 0x40
  | .testing => 0x50

/-- The remembered state of the awning, 0xFF with none. -/
def awningLeft : AwningState → Byte
  | .suspended w => awningByte (.work w)
  | _ => 0xFF

/-- The operation in progress with the end it seeks in its high bits. -/
def operationByte (op : Nat) : Target → Byte
  | .inn => byteNum op
  | .out => byteNum (op + 16)
  | .position _ => byteNum (op + 32)

/-- The end position and its n. -/
def endBytes : EndPosition → List Byte
  | .inn => [0, 0xFF, 0xFF]
  | .out => [1, 0xFF, 0xFF]
  | .position n => 2 :: bytes2 n
  | .unknown => [3, 0xFF, 0xFF]

/-- The duty byte of a channel, 0 unless it is driven. -/
def dutyByte (c : Channel) : Byte :=
  match c.mode with
  | .driven _ n => byteNum n.toNat
  | _ => 0

def causeFlags (c : Causes) (lapsed : Bool) : Byte := flags [c.supply, c.freeze, c.holdLapse, lapsed]

/-- JACKS record, 46 bytes. -/
def State.jacksLayout (s : State) : List Byte :=
  let j := s.jk
  let has := s.straps.hasJack
  [jacksByte j.st, if j.st.isLevelAuto then byteNum j.passes else 0xFF, causeFlags j.causes j.lapsed, jacksLeft j.st,
    flags [decide (s.fe.ring.length = 16), j.driftLeft.isSome, j.dumpReq, j.plan.isSome, s.holds .jacks, s.waits .jacks]]
  ++ bytes2 s.fe.pitch ++ bytes2 s.fe.roll
  ++ (JackId.all.flatMap fun i =>
      if has i then word? (s.jackSense i).stroke ++ [octet? (s.jackSense i).pressure] else [0xFF, 0xFF, 0xFF])
  ++ [flags (JackId.all.map fun i => has i && (s.jackSense i).fault)]
  ++ (JackId.all.flatMap fun i => word? (if has i then j.plan.map fun p => p.target.get i else none))
  ++ [flags (JackId.all.map fun i => (j.plan.map fun p => p.clamped.get i).getD false)]
  ++ (match j.jog with
      | some g => byteNum g.jack.num :: (bytes2 g.target ++ bytes2 g.runMs)
      | none => List.replicate 5 0xFF)

/-- Room record, 21 bytes. -/
def State.roomLayout (s : State) (r : RoomId) : List Byte :=
  let x := s.room r
  let q := s.sense r
  let working := decide (x.st.work? ≠ none)
  let pin : Nat :=
    match q.withdrawn.reads, q.engaged.reads with
    | true, false => 0
    | false, true => 1
    | false, false => 2
    | true, true => 3
  [roomByte x.st, if working then operationByte (if x.home then 2 else 1) x.target else 0]
  ++ (match working, x.target with
      | true, .position n => bytes2 n
      | _, _ => [0xFF, 0xFF])
  ++ [causeFlags x.causes x.lapsed, roomLeft x.st,
    flags [s.holds (.room r), s.waits (.room r), x.known, x.holdLeft.isSome, x.resumeLeft.isSome, x.foreStopped,
      x.aftStopped]]
  ++ endBytes x.endPos ++ [dutyByte (s.chan (.drive r .fore)), dutyByte (s.chan (.drive r .aft))]
  ++ bytes4 x.runMs ++ bytes2 q.fore.live ++ bytes2 q.aft.live
  ++ [byteNum (bitsNat [q.foreIn.reads, q.aftIn.reads] + 4 * pin)]

def stowNum : Option StowCause → Nat
  | none => 0
  | some .wind => 1
  | some .driveAway => 2

/-- Awning record, 17 bytes. -/
def State.awningLayout (s : State) : List Byte :=
  let a := s.aw
  let working := decide (a.st.work? ≠ none)
  let bound := (a.waitLeft.isSome || a.suspLeft.isSome) && !a.causes.freeze
  [awningByte a.st,
    if working then operationByte (match a.op with | .move => 1 | .home => 2 | .stow => 3) a.target else 0]
  ++ (match working, a.target with
      | true, .out => bytes2 a.cap.cal.travel
      | true, .position n => bytes2 n
      | _, _ => [0xFF, 0xFF])
  ++ [causeFlags a.causes false, awningLeft a.st, flags [s.holds .awning, s.waits .awning, a.known, bound, s.stowed],
    byteNum (stowNum a.stowCause + 4 * stowNum a.pendingStow)]
  ++ endBytes a.endPos ++ bytes4 a.runMs ++ bytes2 s.fe.awningCount.live

/-- The record of READ_GROUP. -/
def State.groupLayout (s : State) : Group → List Byte
  | .jacks => s.jacksLayout
  | .room r => s.roomLayout r
  | .awning => s.awningLayout

/-- The stop reason, and the watch index, the envelope index and the channel that go with it. -/
def reasonBytes : Reason → Byte × Byte × Byte × Byte
  | .arrived => (0, 0xFF, 0xFF, 0xFF)
  | .limited => (1, 0xFF, 0xFF, 0xFF)
  | .hostStop => (2, 0xFF, 0xFF, 0xFF)
  | .holdExpired => (3, 0xFF, 0xFF, 0xFF)
  | .syncFault => (4, 0xFF, 0xFF, 0xFF)
  | .obstruction => (5, 0xFF, 0xFF, 0xFF)
  | .timeout => (6, 0xFF, 0xFF, 0xFF)
  | .pinFault => (7, 0xFF, 0xFF, 0xFF)
  | .watch i => (8, byteNum i, 0xFF, 0xFF)
  | .envelope i => (9, 0xFF, byteNum i, 0xFF)
  | .interlock => (10, 0xFF, 0xFF, 0xFF)
  | .lowVoltage => (11, 0xFF, 0xFF, 0xFF)
  | .circuitFault c => (12, 0xFF, 0xFF, byteNum c.num)
  | .sensorFault => (13, 0xFF, 0xFF, 0xFF)
  | .noGround => (14, 0xFF, 0xFF, 0xFF)
  | .supplyTimeout => (15, 0xFF, 0xFF, 0xFF)
  | .airNotDumped => (16, 0xFF, 0xFF, 0xFF)
  | .tooSteep => (17, 0xFF, 0xFF, 0xFF)
  | .wind => (18, 0xFF, 0xFF, 0xFF)

/-- Stop record, or one byte 0 where there is none. -/
def stopLayout : Option StopRecord → List Byte
  | none => [0]
  | some e =>
    let (reason, watch, envelope, channel) := reasonBytes e.reason
    [1, match e.op with | .move => 0 | .home => 1 | .jog => 2 | .levelAuto => 3 | .levelStow => 4 | .stow => 5,
      if e.reason = .arrived then 0 else 1, reason]
    ++ bytes4 e.runMs ++ bytes2 e.peak ++ [watch, envelope, channel]
    ++ (match e.positions with
        | .strokes p => JackId.all.flatMap fun j => word? (p.get j)
        | .room fore aft => bytes2 fore ++ bytes2 aft
        | .awning n => bytes2 n)

/-- A part of the level result, or one byte 0 where there is none. -/
def levelLayout (part : LevelPart) : Option LevelResult → List Byte
  | none => [0]
  | some x =>
    match part with
    | .summary =>
      [1, 0, match x.outcome with | .levelled => 0 | .limited => 1 | .aborted => 2,
        match x.abort with | some a => (reasonBytes a).1 | none => 0xFF, byteNum x.passes]
      ++ bytes2 x.pitch ++ bytes2 x.roll
      ++ [byteNum x.baseLift.toNat, flags (JackId.all.map x.clamped.get), flags (JackId.all.map x.light.get),
        flags (JackId.all.map x.noGround.get)]
    | .perJack =>
      [1, 1] ++ JackId.all.flatMap fun j =>
        word? (x.touch.get j) ++ word? (x.target.get j) ++ word? (x.stroke.get j) ++ [octet? (x.pressure.get j)]

def healthNum : HealthClass → Nat
  | .untested => 0
  | .normal => 1
  | .open => 2
  | .short => 3
  | .testFailed => 4

/-- Health line of a channel, 7 bytes. -/
def State.healthLayout (s : State) (c : ChannelId) : List Byte :=
  let h := s.health.get c
  let x := s.chan c
  if s.straps.hasChannel c then
    [byteNum (healthNum h.result + 8 * (match h.lastTest with | some a => healthNum a | none => 7)
      + 64 * bitsNat [h.resistance.isSome])]
    ++ word? (h.resistance.map fun n => (n : Int))
    ++ [match x.mode with | .off => 0 | .driven .first _ => 1 | .driven .second _ => 2 | .testing _ _ => 3, dutyByte x]
    ++ bytes2 ((x.reading / 100 : Nat) : Int)
  else [0xFF, 0xFF, 0xFF, 4, 0xFF, 0xFF, 0xFF]

/-- A supply entry, 3 bytes. -/
def supplyBytes (g : Group) (c : SupplyClass) (draw : Nat) (waiting before : Bool) : List Byte :=
  byteNum (groupNum g + 8 * (match c with | .stow => 0 | .levelling => 1 | .room => 2 | .awning => 3)
    + 32 * bitsNat [waiting, before]) :: bytes2 draw

/-- Status record, 26 bytes and 3 for each supply entry. -/
def State.statusLayout (s : State) : List Byte :=
  let t := s.sa.stance
  let i := s.inputs
  let c := s.sa.causes
  let lines := fun (f : InputLine → Bool) =>
    flags [f i.parkSet, f i.ignition, f i.engine, f i.charging, f i.airDumped, f i.keyOff]
  [flags [t.jacksDown, t.awningOut, t.anyMotion, t.travelReady, s.sa.stowedLine, s.sa.jacksLine, s.jk.dumpReq],
    byteNum t.roomsOut, lines (·.level), lines (·.latch)]
  ++ bytes2 s.fe.battery
  ++ [byteNum s.arb.base, byteNum s.arb.level, byteNum (max 40 (s.arb.base * (100 - 25 * s.arb.level) / 100))]
  ++ bytes2 ((s.arb.grants.map (·.draw)).sum : Nat)
  ++ [flags [s.arb.lowVoltage, s.wind.lockout, s.wind.sustained.isSome],
    flags ([s.guard.jackWork, !s.guard.jackWork && RoomId.all.any s.guard.roomWork.get]
      ++ RoomId.all.map s.guard.roomWork.get),
    flags (Group.all.map s.guard.freeze.get), flags (Group.all.map s.sa.groups.get ++ [s.sa.supervision]),
    if s.sa.supervision then
      flags [c.reset, c.wake, c.wind, c.watch, c.freeze, c.lowVoltage, c.budgetDegraded, c.storeDefaulted]
    else 0]
  ++ bytes2 s.wind.gust ++ word? s.wind.sustained ++ bytes2 s.wind.quiet
  ++ [match s.test with | some u => byteNum u.chan.num | none => 0xFF]
  ++ bytes2 s.store.defaulted.toNat ++ [byteNum (s.arb.grants.length + s.arb.waiting.length)]
  ++ (s.arb.grants.flatMap fun e => supplyBytes e.holder e.cls e.draw false false)
  ++ (s.arb.waiting.flatMap fun e => supplyBytes e.holder e.cls e.draw true e.before)

/-! ## Groups -/

/-- No operation and no test: nothing of the group stands at the arbiter (R51, R80, R104). -/
def State.atRest (s : State) (g : Group) : Prop := s.groupIdle g = true ∧ s.holds g = false ∧ s.waits g = false

/-- The group's operation has ended with the reason given (R38, R75, R87, R162): the group is idle, nothing of it stands at
the arbiter, its stop record carries the reason, and a present group is in the attention set. -/
def State.endedWith (s : State) (g : Group) (reason : Reason) : Prop :=
  s.atRest g ∧ (∃ e, s.sa.records.get g = some e ∧ e.reason = reason) ∧ (s.straps.hasGroup g = true → s.sa.groups.get g = true)

/-- An operation other than a circuit test is in progress. -/
def State.working (s : State) : Group → Prop
  | .jacks => s.jk.st.work? ≠ none
  | .room r => (s.room r).st.work? ≠ none
  | .awning => s.aw.st.work? ≠ none

/-- No channel of the group is driven. -/
def State.groupOff (s : State) (g : Group) : Prop := ∀ c : ChannelId, c.owner = g → s.driven c = false

/-- No channel of a room is driven. -/
def State.roomStill (s : State) (r : RoomId) : Prop :=
  s.driven (.drive r .fore) = false ∧ s.driven (.drive r .aft) = false ∧ s.driven (.pin r) = false

/-- What the motion of groups cannot touch: everything but the groups, their counts, the channels, the arbiter, the claim,
the freeze set, the watch hits, the stance, the attention set, the records and the notice flag. -/
structure Still where
  power : Power
  straps : Straps
  clock : Clock
  ring : List (Int × Int)
  pitch : Int
  roll : Int
  jacks : PerJack JackSense
  stowed : Contact
  battery : Int
  missing : Nat
  pulses : Nat
  inputs : Inputs
  wind : Wind
  envelope : List EnvEntry
  watches : List WatchContents
  health : PerChannel Health
  test : Option CircuitTest
  link : Link
  store : Store
  pending : List Instr
  deriving DecidableEq, Repr

def State.still (s : State) : Still :=
  { power := s.power, straps := s.straps, clock := s.clock, ring := s.fe.ring, pitch := s.fe.pitch, roll := s.fe.roll
    jacks := s.fe.jacks, stowed := s.fe.stowed, battery := s.fe.battery, missing := s.fe.missing, pulses := s.fe.pulses
    inputs := s.inputs, wind := s.wind, envelope := s.guard.envelope, watches := s.guard.watches.map (·.contents)
    health := s.health, test := s.test, link := { s.link with notice := false }, store := s.store, pending := s.pending }

/-- What neither motion nor the sending of a reply or a notice touches. -/
def State.framed (s : State) : Still :=
  { s.still with link := { s.link with notice := false, slot := none, tx := none } }

/-! ## A sample set -/

/-- The state in which the receivers of a sample set find the part: the interval has passed, and every reading of the set
has been taken (R3). -/
def State.atSet (s : State) (x : SampleSet) : State := (s.sampleDue.takeSet x).restance

/-- Every watch unit and every envelope entry is disabled. -/
def State.guardQuiet (s : State) : Prop :=
  (∀ u ∈ s.guard.watches, u.contents.enabled = false) ∧ ∀ e ∈ s.guard.envelope, e.contents.enabled = false

/-! ## What a request needs -/

/-- The permits of R118 all hold for the group and direction. -/
def State.permitsHold (s : State) (g : Group) (extend : Bool) : Prop :=
  s.inputs.keyOff.level = true ∧ s.arb.lowVoltage = false ∧ s.frozen g = false
    ∧ (g ≠ .awning ∨ extend = true → s.inputs.parkSet.level = true)
    ∧ (g = .jacks → s.inputs.ignition.level = true)
    ∧ (g = .awning → extend = true → s.inputs.ignition.level = false ∧ s.wind.lockout = false)

/-- The channels an operation of the group drives are usable, its permits hold, and no envelope entry matches (R23, R47,
R55, R83). -/
def State.mayDrive (s : State) (g : Group) (channels : List ChannelId) (extend retract permit : Bool) : Prop :=
  (∀ c ∈ channels, s.usable c = true) ∧ s.permitsHold g permit ∧ s.envelopeCheck g extend retract = none

/-- Every check of R55 but the one of position-known passes. -/
def State.roomClear (s : State) (r : RoomId) (extend : Bool) : Prop :=
  s.straps.hasRoom r = true ∧ (s.room r).st = .idle ∧ s.guard.jackWork = false
    ∧ s.mayDrive (.room r) (roomChannels r) extend (!extend) extend

/-- Every check of R83 but the one of position-known passes. -/
def State.awningClear (s : State) (extend : Bool) : Prop :=
  s.straps.awning = true ∧ s.aw.st = .idle ∧ s.mayDrive .awning [.awning] extend (!extend) extend

/-- The checks that the three JACKS operations share pass (R23, R45, R47); `channels` are those it would drive. -/
def State.jacksClear (s : State) (channels : List ChannelId) (extend retract : Bool) : Prop :=
  s.jk.st.isIdle = true ∧ s.anyJackFault = false ∧ s.guard.anyRoomWork = false
    ∧ s.mayDrive .jacks channels extend retract true

/-- A request for the draw is granted at once: nothing waits, and the draw fits (R106, R107). -/
def State.fits (s : State) (draw : Nat) : Prop := s.arb.waiting = [] ∧ s.grantSum + draw ≤ s.budget

/-- A request for the draw has to wait behind nothing but the budget (R106, R107). -/
def State.mustWait (s : State) (draw : Nat) : Prop := s.arb.waiting = [] ∧ s.budget < s.grantSum + draw

/-- The work-mode claim, and the operations other than JACKS', as they were in `s`. -/
def State.othersAsIn (t s : State) : Prop :=
  t.rooms = s.rooms ∧ t.aw = s.aw ∧ t.guard.roomWork = s.guard.roomWork ∧ t.guard.freeze = s.guard.freeze

/-- The first condition of the list that holds names its code (R118). -/
def firstCode (conditions : List (Bool × Byte)) : Option Byte := (conditions.find? (·.1)).map (·.2)

/-! ## Invariants -/

/-- The tables have their sizes (R123, R129), in the guard, in the store and in a write of the tables. -/
def State.tablesWhole (s : State) : Prop :=
  s.guard.envelope.length = 16 ∧ s.guard.watches.length = 4 ∧ s.store.storedEnvelope.length = 16
    ∧ s.store.storedWatches.length = 4
    ∧ ∀ e w n, s.store.job = some (.tables e w, n) → e.length = 16 ∧ w.length = 4

/-- The rings, the queue and the link counters keep their bounds (R5, R90, R165, R166). -/
def State.buffersBounded (s : State) : Prop :=
  s.fe.ring.length ≤ 16 ∧ s.wind.ring.length ≤ 12 ∧ s.link.queue.length ≤ 4 ∧ s.link.framing ≤ 65535
    ∧ s.link.check ≤ 65535 ∧ s.link.overflow ≤ 65535

/-- A store job that would write the awning draw keeps it within its range (4.1, R175). -/
def StoreJob.drawOk : StoreJob → Bool
  | .item 7 2 v => decide (v ≤ 40)
  | _ => true

/-- The awning draw is at most 40 A wherever it can come from (4.1, 5.1). -/
def Store.drawsOk (t : Store) : Prop :=
  t.active.supply.awning ≤ 40 ∧ t.stored.supply.awning ≤ 40 ∧ ∀ j n, t.job = some (j, n) → j.drawOk = true

/-- What the stow holds at the arbiter: nothing without a stow, at most 40 A with one, in the awning's name (R94, R109). -/
def State.stowGrantsOk (s : State) : Prop :=
  (∀ e ∈ s.arb.grants, e.cls = .stow → e.holder = .awning)
    ∧ sumDraws (s.arb.grants.filter fun e => decide (e.cls = .stow)) ≤ (if s.aw.stowing then 40 else 0)

/-- The arbiter's promise (R103): the draws granted fit the budget; with what keeps it true: no STOW entry waits, the stow's
grant is small, and nothing is granted in dormancy (R104, R109, R182). -/
def State.supplyFits (s : State) : Prop :=
  s.grantSum ≤ s.budget ∧ (∀ e ∈ s.arb.waiting, e.cls ≠ .stow) ∧ s.stowGrantsOk ∧ s.store.drawsOk
    ∧ (s.power ≠ .awake → s.arb.grants = [])

/-- The engine's waits belong to the phases they are of: a settle timer to SETTLE, a step settle to LOAD_CHECK, a wait for a
tilt sample to one of the two with its timer run out (R33, R35). -/
def Levelling.waitsOk (j : Levelling) : Prop :=
  (j.settleLeft ≠ none → j.st = .work (.levelling .settle) ∧ j.tiltWait = false)
    ∧ (j.stepLeft ≠ none → j.st = .work (.levelling .loadCheck) ∧ j.tiltWait = false
      ∧ ∃ p, j.step = some p ∧ p.mode = .settling)
    ∧ (j.tiltWait = true → j.st = .work (.levelling .settle)
      ∨ (j.st = .work (.levelling .loadCheck) ∧ ∃ p, j.step = some p ∧ p.mode = .settling))

/-- The work-mode claim stands over every operation that needs it, and over every driven channel of JACKS and of the rooms
(R121, R142). -/
def State.claimSound (s : State) : Prop :=
  (s.guard.jackWork = true → s.guard.anyRoomWork = false)
    ∧ (s.jk.st.work? ≠ none → s.guard.jackWork = true)
    ∧ (∀ r, (s.room r).st.work? ≠ none → s.guard.roomWork.get r = true)
    ∧ ((s.driven .pump = true ∨ s.anyValve = true) → s.guard.jackWork = true)
    ∧ (∀ r, ¬ s.roomStill r → s.guard.roomWork.get r = true)
    ∧ s.jk.waitsOk

/-- While awake the stance record is the one the state gives, and the dash lines follow it (R154, R155). -/
def State.stanceTrue (s : State) : Prop :=
  s.power = .awake →
    s.sa.stance = s.computedStance ∧ s.sa.stowedLine = s.sa.stance.travelReady ∧ s.sa.jacksLine = s.sa.stance.jacksDown

end Sys2Proof.Machine
end

