-- ==== Sys2Proof/Certificates/Slice0/Obligations.lean ====
section
/-!
DEFINITION. What is claimed of the part: one proposition each, listed with the rules they rest on in OBLIGATIONS.json.
-/

section Statements

open Sys2Proof Sys2Proof.Machine

/-! ## The machine -/

/-- The command at the front of the queue is carried out on the state with the rest of the queue; with nothing waiting
the part idles, which is the model's choice (notes 1). -/
def Obligations.StepTakesTheFrontCommand : Prop :=
  (∀ (c : Instr) (s : State) (rest : List Instr),
     step { s with pending := c :: rest } = exec c { s with pending := rest })
    ∧ (∀ s : State, s.pending = [] → step s = .next s)

/-- Every command has a next state, and none touches the queue of commands: nothing in the manual stops the part. -/
def Obligations.EveryCommandCompletes : Prop :=
  ∀ (c : Instr) (s : State), ∃ t, exec c s = .next t ∧ t.pending = s.pending

/-! ## Requests on the link -/

/-- A well-formed request is decoded from its own kind and payload (R169, 9.5, 9.6). The model's own choices in it:
notes 12. -/
def Obligations.RequestDecodesFromItsEncoding : Prop :=
  ∀ q : Request, q.wf = true → decodeRequest q.kind q.payload = .ok q

/-- A whole frame with a good check joins the queue, is lost to overflow, or is not heard while dormant (R164, R165).
The model's own choices in it: notes 14. -/
def Obligations.GoodFrameOffered : Prop :=
  ∀ (s : State) (kind tag : Byte) (payload : List Byte),
    s.power ≠ .off → s.link.rx = .hunting → payload.length ≤ 48 →
    exec (.frameReceived (frameBytes kind tag payload)) s =
      if s.power = .dormant ∧ kind ≠ 0x01 ∧ kind ≠ 0x61 then .next s.kick
      else if 4 ≤ s.link.queue.length then
        .next ({ s with link := { s.link with overflow := min 65535 (s.link.overflow + 1) } } : State).kick
      else
        .next ({ s with link := { s.link with
          queue := s.link.queue ++ [{ kind := kind, tag := tag, payload := payload }] } } : State).kick

/-- A whole frame with another check than its own is discarded and counted; a gap, a missing stop bit or a length
outside 2 to 50 discards the frame and counts, and while hunting a gap counts nothing (R164, R165). The model's own
choices in it: notes 14. -/
def Obligations.FaultyFramesCounted : Prop :=
  (∀ (s : State) (kind tag : Byte) (payload : List Byte) (c : Half),
     let body := byteNum (payload.length + 2) :: kind :: tag :: payload
     s.power ≠ .off → s.link.rx = .hunting → payload.length ≤ 48 → c ≠ crc16 body →
     exec (.frameReceived (0xC3 :: body ++ [hiByte c, loByte c])) s =
       .next ({ s with link := { s.link with check := min 65535 (s.link.check + 1) } } : State).kick)
    ∧ (∀ (s : State) (n : Byte) (rest : List Byte) (bad : Byte),
        s.power ≠ .off → s.link.rx = .hunting → badLengthByte n = false → rest.length < n.toNat + 2 →
        badLengthByte bad = true →
        let counted : State := { s with link := { s.link with framing := min 65535 (s.link.framing + 1) } }
        exec (.interByteGapTimeout (0xC3 :: n :: rest)) s = .next counted.kick
          ∧ exec (.framingFault (0xC3 :: n :: rest) .noStopBit) s = .next counted.kick
          ∧ exec (.framingFault [0xC3] (.badLength bad)) s = .next counted.kick
          ∧ exec (.interByteGapTimeout []) s = .next s.kick)

/-- Taking the head frame of the queue is the request's own row on the state without that frame (R167). The model's
own choices in it: notes 6. -/
def Obligations.TakingTheHeadRunsItsRow : Prop :=
  ∀ (s : State) (q : Request) (tag : Byte) (x : SampleSet) (rest : List RequestFrame),
    s.ready → q.wf = true → s.link.queue = q.frame tag :: rest →
    let u : State := { s with link := { s.link with queue := rest } }
    exec (.requestTaken x) s = exec (q.row tag x) u
      ∧ ∃ t f, exec (.requestTaken x) s = .next t ∧ u.hasReply t f ∧ f.kind = byteNum q.kind + 0x80 ∧ f.tag = tag
        ∧ t.link.queue = rest

/-- The link port's own checks, in their order, answer for the owner; a request that is refused, by them or by its
owner, changes nothing but the reply (R2, R23, R55, R83, R169, R170, R175). The model's own choices in it: notes 12.
-/
def Obligations.RefusalsChangeNothing : Prop :=
  (∀ (s : State) (f : RequestFrame) (x : SampleSet) (rest : List RequestFrame),
     s.ready → s.link.queue = f :: rest →
     let u : State := { s with link := { s.link with queue := rest } }
     let answer := fun (code : Byte) => exec (.requestTaken x) s = .next (u.replying (replyOf f.kind f.tag [code]))
     (payloadLength f.kind.toNat = none → answer 1)
       ∧ (∀ n, payloadLength f.kind.toNat = some n → f.payload.length ≠ n → answer 2)
       ∧ (payloadLength f.kind.toNat = some f.payload.length →
           (∀ q, decodeArguments f.kind.toNat f.payload = some q → q.wf = false) → answer 3))
    ∧ (∀ (s : State) (q : Request) (tag : Byte) (x : SampleSet),
        s.ready → q.wf = true → (s.handle x q).1.isOk = false →
        exec (q.row tag x) s = .next (s.replying (replyOf (byteNum q.kind) tag (s.handle x q).1.payload)))

/-- A frame that has been sent whole and ends nothing frees the path for the reply in the slot, or else for a notice
that is owed (R168). -/
def Obligations.TransmitPathGoesOn : Prop :=
  ∀ (s : State) (f : SentFrame) (raw : RawInputs) (x : SampleSet),
    s.power ≠ .off → s.link.tx = some f → f.after = .nothing →
    exec (.frameTransmitComplete raw x) s =
      .next { s with link :=
        match s.link.slot with
        | some g => { s.link with tx := some g, slot := none }
        | none =>
          if s.link.notice then { s.link with tx := some s.noticeFrame, notice := false }
          else { s.link with tx := none } }

/-- A notice: kind 0x7F, tag 0, the attention mask and SUPERVISION's causes of the moment it begins; the queue and the
reply slot take no part, and a host frame of kind 0x7F is an unknown kind (R172). -/
def Obligations.NoticeCarriesTheAttentionSet : Prop :=
  ∀ (s : State) (f : SentFrame) (raw : RawInputs) (x : SampleSet),
    (s.power ≠ .off → s.link.tx = some f → f.after = .nothing → s.link.slot = none → s.link.notice = true →
      ∃ (t : State) (mask causes : Byte), exec (.frameTransmitComplete raw x) s = .next t
        ∧ t.link.tx = some { kind := 0x7F, tag := 0, payload := [mask, causes], after := .nothing }
        ∧ t.link.slot = none ∧ t.link.queue = s.link.queue ∧ t.link.notice = false
        ∧ (∀ g, mask.getLsbD (groupBit g) = s.sa.groups.get g) ∧ mask.getLsbD 6 = s.sa.supervision
        ∧ mask.getLsbD 7 = false ∧ (s.sa.supervision = false → causes = 0)
        ∧ (s.sa.supervision = true →
            causes.getLsbD 0 = s.sa.causes.reset ∧ causes.getLsbD 1 = s.sa.causes.wake
              ∧ causes.getLsbD 2 = s.sa.causes.wind ∧ causes.getLsbD 3 = s.sa.causes.watch
              ∧ causes.getLsbD 4 = s.sa.causes.freeze ∧ causes.getLsbD 5 = s.sa.causes.lowVoltage
              ∧ causes.getLsbD 6 = s.sa.causes.budgetDegraded ∧ causes.getLsbD 7 = s.sa.causes.storeDefaulted))
    ∧ (∀ (tag : Byte) (payload : List Byte) (rest : List RequestFrame), s.ready →
        s.link.queue = { kind := 0x7F, tag := tag, payload := payload } :: rest →
        exec (.requestTaken x) s =
          .next (({ s with link := { s.link with queue := rest } } : State).replying (replyOf 0x7F tag [1])))

/-- READ_COUNTERS returns and clears the three counters; they saturate; a start-up and a soft reset clear them, and
entry to DORMANT keeps them (R166). -/
def Obligations.LinkCountersKept : Prop :=
  (∀ (s : State) (tag : Byte), s.ready →
    exec (.readCounters tag) s =
      .next (({ s with link := { s.link with framing := 0, check := 0, overflow := 0 } } : State).replying
        (replyOf 0x04 tag (0 :: (bytes2 s.link.framing ++ bytes2 s.link.check ++ bytes2 s.link.overflow)))))
    ∧ (∀ (s : State) (bytes : List Byte) (cause : FramingCause),
        ∀ c ∈ [Instr.frameReceived bytes, .interByteGapTimeout bytes, .framingFault bytes cause],
        ∃ t, exec c s = .next t
          ∧ (s.link.framing ≤ 65535 → s.link.framing ≤ t.link.framing ∧ t.link.framing ≤ 65535)
          ∧ (s.link.check ≤ 65535 → s.link.check ≤ t.link.check ∧ t.link.check ≤ 65535)
          ∧ (s.link.overflow ≤ 65535 → s.link.overflow ≤ t.link.overflow ∧ t.link.overflow ≤ 65535))
    ∧ (∀ (s : State) (pins : StrapPins) (raw : RawInputs) (x : SampleSet), ∃ t, exec (.powerOn pins raw x) s = .next t
        ∧ t.link.framing = 0 ∧ t.link.check = 0 ∧ t.link.overflow = 0)
    ∧ (∀ (s : State) (f : SentFrame) (raw : RawInputs) (x : SampleSet),
        s.power = .awake → s.link.tx = some f → f.after ≠ .nothing →
        ∃ t, exec (.frameTransmitComplete raw x) s = .next t
          ∧ (f.after = .reset → t.link.framing = 0 ∧ t.link.check = 0 ∧ t.link.overflow = 0)
          ∧ (f.after = .dormant → t.link.framing = s.link.framing ∧ t.link.check = s.link.check
              ∧ t.link.overflow = s.link.overflow))

/-! ## Reading -/

/-- IDENTIFY and READ_CAPABILITY answer from the straps, the lock cells and the fixed table, awake and (IDENTIFY)
dormant, and change nothing (R180, 9.5). -/
def Obligations.IdentityAndCapability : Prop :=
  ∀ (s : State) (tag offset count : Byte),
    let straps := byteNum ((if s.straps.sixJacks then 1 else 0) + 2 * s.straps.rooms + (if s.straps.awning then 16 else 0)
      + (if s.straps.supply24 then 32 else 0) + (if s.straps.airsusp then 64 else 0))
    let table : List Byte :=
      [1, straps, 4, 16, 4, 6, 20, 10, byteNum s.store.locks.toNat, 1, 2, 3, 4, 5, 6, 7, 8, 9, 10, 1,
        0, 0, 0, 0, 0, 0, 0, 0, 0, 0, 0, 0]
    let o := offset.toNat % 32
    let n := if count.toNat = 0 then 1 else if 16 < count.toNat then 16 else count.toNat
    (s.power ≠ .off → s.link.slot = none → s.ending = false →
      exec (.identify tag) s = .next (s.replying (replyOf 0x01 tag [0, 0x0C, 0x41, 0x04, 0x60, 1, straps])))
    ∧ (s.ready →
        exec (.readCapability tag offset count) s =
          .next (s.replying (replyOf 0x02 tag
            (0 :: byteNum o :: byteNum n :: (List.range n).map fun i => table.getD ((o + i) % 32) 0))))

/-- READ_STATUS returns the status record and sets every latch to its debounced value; READ_GROUP, READ_STOP_RECORD,
READ_LEVEL_RESULT and READ_HEALTH answer with the records of 9.6, byte for byte, and change nothing, and an absent
group is answered ABSENT (R2, R16, R18, R163, R173, 9.4, 9.6). The model's own choices in it: notes 12, 45. -/
def Obligations.StatusAndRecordsRead : Prop :=
  (∀ (s : State) (tag : Byte), s.ready →
     let rearm := fun (l : InputLine) => { l with latch := l.level }
     exec (.readStatus tag) s =
         .next (({ s with inputs :=
           { parkSet := rearm s.inputs.parkSet, ignition := rearm s.inputs.ignition, engine := rearm s.inputs.engine
             charging := rearm s.inputs.charging, airDumped := rearm s.inputs.airDumped
             keyOff := rearm s.inputs.keyOff } } : State).replying (replyOf 0x03 tag (0 :: s.statusLayout)))
       ∧ s.statusLayout.length = 26 + 3 * (s.arb.grants.length + s.arb.waiting.length))
    ∧ (∀ (s : State) (tag : Byte) (g : Group) (p : LevelPart) (c : ChannelId) (n : Byte), s.ready →
        let lines := min (min 6 (max 1 (min 10 n.toNat))) (20 - c.num)
        (s.straps.hasGroup g = false →
            exec (.readGroup tag g) s = .next (s.replying (replyOf 0x20 tag [4]))
              ∧ exec (.readStopRecord tag g) s = .next (s.replying (replyOf 0x21 tag [4])))
        ∧ (s.straps.hasGroup g = true →
            exec (.readGroup tag g) s = .next (s.replying (replyOf 0x20 tag (0 :: s.groupLayout g)))
              ∧ (s.groupLayout g).length = (match g with | .jacks => 46 | .room _ => 21 | .awning => 17)
              ∧ exec (.readStopRecord tag g) s =
                .next (s.replying (replyOf 0x21 tag (0 :: stopLayout (s.sa.records.get g)))))
        ∧ exec (.readLevelResult tag p) s = .next (s.replying (replyOf 0x22 tag (0 :: levelLayout p s.jk.result)))
        ∧ exec (.readHealth tag c n) s =
            .next (s.replying (replyOf 0x41 tag (0 :: byteNum c.num :: byteNum lines
              :: ((ChannelId.all.drop c.num).take lines).flatMap s.healthLayout))))

/-- READ_ENVELOPE and READ_WATCH take an index beyond their table as its last and return that entry; READ_SETTING
returns the active value of an item, and nothing changes (R126, R134, R174, R175). The model's own choices in it:
notes 12, 31. -/
def Obligations.TablesAndSettingsRead : Prop :=
  ∀ (s : State) (tag i group item : Byte), s.ready → s.tablesWhole →
    (∃ e, s.guard.envelope[min 15 i.toNat]? = some e
      ∧ exec (.readEnvelope tag i) s = .next (s.replying (replyOf 0x30 tag
        (0 :: byteNum (min 15 i.toNat)
          :: byteNum ((if e.contents.enabled then 1 else 0) + (if e.contents.outside then 2 else 0)
              + 4 * e.contents.direction.code + (if e.locked then 16 else 0)
              + (if e.contents.source.isPresent s.straps && s.condHolds e.contents then 32 else 0))
          :: (encodeEnvelope e.contents).drop 1))))
    ∧ (∃ u, s.guard.watches[min 3 i.toNat]? = some u
      ∧ exec (.readWatch tag i) s = .next (s.replying (replyOf 0x33 tag
        (0 :: byteNum (min 3 i.toNat)
          :: byteNum ((if u.contents.enabled then 1 else 0) + (if u.contents.outside then 2 else 0)
              + (if u.contents.action.isFreeze then 4 else 0) + (if u.hit then 8 else 0))
          :: (encodeWatch u.contents).drop 1))))
    ∧ (item.toNat < itemCount group → ∃ v, itemValue s.store.active group.toNat item.toNat = some v
      ∧ exec (.readSetting tag group item) s =
        .next (s.replying (replyOf 0x50 tag
          (if itemPresent s.straps group.toNat item.toNat then 0 :: bytes2 v else [4]))))

/-! ## Attention, tables, settings -/

/-- CLEAR_ATTENTION takes the named elements out of the set, SUPERVISION with its causes, and touches nothing else
(R158). -/
def Obligations.NamedAttentionCleared : Prop :=
  ∀ (s : State) (tag mask : Byte), s.ready → maskWithin 7 mask = true →
    ∃ sa : StanceAttention, exec (.clearAttention tag mask) s =
        .next (({ s with sa := sa } : State).replying
          (replyOf 0x23 tag [0, ({ s with sa := sa } : State).attentionByte, ({ s with sa := sa } : State).supByte]))
      ∧ (∀ g, sa.groups.get g = (s.sa.groups.get g && !mask.getLsbD (groupBit g)))
      ∧ sa.supervision = (s.sa.supervision && !mask.getLsbD 6)
      ∧ (sa.supervision = true → sa.causes = s.sa.causes) ∧ (sa.supervision = false → sa.causes = .none)
      ∧ sa.stance = s.sa.stance ∧ sa.stowedLine = s.sa.stowedLine ∧ sa.jacksLine = s.sa.jacksLine
      ∧ sa.records = s.sa.records

/-- WRITE_ENVELOPE and WRITE_WATCH write the entry under the index used after their checks, in order; LOCK_ENVELOPE
locks an entry and leaves the rest, and a locked entry refuses every write (R126, R127, R134). The model's own choices
in it: notes 31. -/
def Obligations.TableEntriesWritten : Prop :=
  (∀ (s : State) (tag i : Byte) (c : EnvContents), s.ready →
     let n := min 15 i.toNat
     let absent := !s.straps.hasGroup c.subject || !c.source.isPresent s.straps
     let locked := s.guard.envelope[n]?.any (·.locked)
     let bad := (c.source.isPosition && decide (c.high.toInt < c.low.toInt)) || decide (c.source.axisOf = some c.subject)
     exec (.writeEnvelope tag i c) s =
       if absent then .next (s.replying (replyOf 0x31 tag [4]))
       else if locked then .next (s.replying (replyOf 0x31 tag [8]))
       else if bad then .next (s.replying (replyOf 0x31 tag [3]))
       else
         .next (({ s with guard := { s.guard with
           envelope := s.guard.envelope.set n { contents := c, locked := false } } } : State).replying
             (replyOf 0x31 tag [0, byteNum n])))
    ∧ (∀ (s : State) (tag i : Byte), s.ready → s.tablesWhole →
        let n := min 15 i.toNat
        ∃ table : List EnvEntry, exec (.lockEnvelope tag i) s =
            .next (({ s with guard := { s.guard with envelope := table } } : State).replying (replyOf 0x32 tag [0, byteNum n]))
          ∧ table.map (·.contents) = s.guard.envelope.map (·.contents)
          ∧ (∀ k, k ≠ n → table[k]? = s.guard.envelope[k]?) ∧ table[n]?.map (·.locked) = some true
          ∧ (∀ (u : State) (b : Byte) (c : EnvContents), u.ready → u.guard.envelope = table →
              u.straps.hasGroup c.subject = true → c.source.isPresent u.straps = true →
              exec (.writeEnvelope b i c) u = .next (u.replying (replyOf 0x31 b [8]))))
    ∧ (∀ (s : State) (tag i : Byte) (c : WatchContents), s.ready →
        let n := min 3 i.toNat
        let absent := !c.source.isPresent s.straps
          || (match c.action with | .stopGroup g => !s.straps.hasGroup g | .freezeAll => false)
        exec (.writeWatch tag i c) s =
          if absent then .next (s.replying (replyOf 0x34 tag [4]))
          else if c.high.toInt < c.low.toInt then .next (s.replying (replyOf 0x34 tag [3]))
          else
            .next (({ s with guard := { s.guard with
              watches := s.guard.watches.set n { contents := c, hit := false } } } : State).replying
                (replyOf 0x34 tag [0, byteNum n])))

/-- CLEAR_WATCH_HITS clears the hits named and nothing else. Where no other unit can fire, an enabled unit whose hit
is false fires at the next new sample at which its condition holds, in a sample set whose first receiver is the watch
table or in a wind window without a wind condition: its hit is set and SUPERVISION joins with WATCH; STOP_GROUP ends
the group's operation with WATCH and the index, a stow as well; FREEZE_ALL puts every present group in the freeze set
and suspends its operation with its channels off, the grants, the waiting list and the claim staying, and adds FREEZE
(R130 to R133). The model's own choices in it: notes 2, 5. -/
def Obligations.WatchHitsCleared : Prop :=
  (∀ (s : State) (tag mask : Byte), s.ready → maskWithin 4 mask = true →
    ∃ table : List WatchUnit, exec (.clearWatchHits tag mask) s =
        .next (({ s with guard := { s.guard with watches := table } } : State).replying (replyOf 0x35 tag [0]))
      ∧ table.map (·.contents) = s.guard.watches.map (·.contents)
      ∧ (∀ i, table[i]?.map (·.hit) = s.guard.watches[i]?.map fun u => u.hit && !mask.getLsbD i))
    ∧ (∀ (s : State) (i : Nat) (u : WatchUnit) (v : Int), s.power = .awake → i < 4 → s.guard.watches[i]? = some u →
        (∀ k w, k ≠ i → s.guard.watches[k]? = some w → w.contents.enabled = false ∨ w.hit = true) →
        u.contents.enabled = true → u.hit = false → u.contents.source.isPresent s.straps = true →
        inWindow u.contents.low u.contents.high u.contents.outside v = true →
        let fired := fun (t : State) => t.guard.watches[i]? = some { u with hit := true } ∧ t.sa.supervision = true
          ∧ t.sa.causes.watch = true
        let stopped := fun (t : State) (g : Group) =>
          s.working g → t.endedWith g (.watch i) ∧ t.groupOff g ∧ t.frozen g = s.frozen g
        let suspends := fun (t : State) (g : Group) => t.frozen g = true
          ∧ (s.working g → s.frozen g = false → t.groupOff g
              ∧ (∀ r, g = .room r → ∃ w, (t.room r).st = .suspended w ∧ (s.room r).st.work? = some w
                  ∧ (t.room r).causes.freeze = true)
              ∧ (g = .awning → ∃ w, t.aw.st = .suspended w ∧ s.aw.st.work? = some w ∧ t.aw.causes.freeze = true)
              ∧ (g = .jacks → ∃ w, t.jk.st = .suspended w ∧ s.jk.st.work? = some w ∧ t.jk.causes.freeze = true))
        (∀ x order, order.head? = some .watches →
          let a := s.atSet x
          (match u.contents.source with
            | .stroke j => (a.jackSense j).fault = false
            | .pressure j => (a.jackSense j).fault = false
            | .pitch => a.fe.ring.length = 16
            | .roll => a.fe.ring.length = 16
            | .gust => False
            | .sustained => False
            | _ => True) →
          a.watchValue u.contents.source = some v →
          ∃ t, exec (.sampleInterval x order) s = .next t
            ∧ (∀ g, u.contents.action = .stopGroup g → s.straps.hasGroup g = true → fired t ∧ stopped t g)
            ∧ (u.contents.action = .freezeAll → fired t ∧ t.sa.causes.freeze = true
                ∧ ∀ g, s.straps.hasGroup g = true → t.frozen g = true
                  ∧ ((g = .jacks → a.anyJackFault = false ∧ a.fe.ring ≠ []) → suspends t g)))
        ∧ (let run := s.store.active.awningRun
          let gust := max 0 (min 600 (s.fe.pulses * s.store.active.awningCal.pulseFactor))
          let speeds := s.wind.ring ++ [gust]
          let ring := speeds.drop (speeds.length - 12)
          let sustained : Option Int := if ring.length = 12 then some (ring.sum / 12) else none
          (u.contents.source = .gust ∧ v = gust ∨ u.contents.source = .sustained ∧ sustained = some v) →
          gust < run.gustStow → (∀ y, sustained = some y → y < run.sustainedStow) →
          ∃ t, exec .windWindow s = .next t
            ∧ (∀ g, u.contents.action = .stopGroup g → s.straps.hasGroup g = true → fired t ∧ stopped t g)
            ∧ (u.contents.action = .freezeAll → fired t ∧ t.sa.causes.freeze = true ∧ t.arb = s.arb
                ∧ t.guard.jackWork = s.guard.jackWork ∧ t.guard.roomWork = s.guard.roomWork
                ∧ t.sa.records = s.sa.records ∧ ∀ g, s.straps.hasGroup g = true → suspends t g)))

/-- WRITE_SETTING, STORE_TABLES, LOCK_CALIBRATION and ZERO_TILT start their store write of 30 ms, the active settings
waiting for its end; a write in flight refuses them with STORE_BUSY, and a lock cell that is set with LOCKED (R175,
R177 to R179). -/
def Obligations.StoreRequestsAnswered : Prop :=
  (∀ (s : State) (tag group item : Byte) (v : Half), s.ready → s.store.job = none →
     let g := group.toNat
     let i := item.toNat
     let used := clampItem g i v.toInt
     let writing := fun (j : StoreJob) => ({ s with store := { s.store with job := some (j, 30) } } : State)
     (i < itemCount group → itemPresent s.straps g i = true → s.isLocked g = false →
       exec (.writeSetting tag group item v) s =
         .next ((writing (.item g i used)).replying
           (replyOf 0x51 tag (0 :: (if v.toInt = used then 0 else 1) :: bytes2 used))))
     ∧ exec (.storeTables tag) s =
         .next ((writing (.tables (s.guard.envelope.map (·.contents)) (s.guard.watches.map (·.contents)))).replying
           (replyOf 0x36 tag [0]))
     ∧ (g < 4 → s.store.locks.getLsbD g = false →
         exec (.lockCalibration tag group) s = .next ((writing (.lock g)).replying (replyOf 0x52 tag [0])))
     ∧ (g < 4 → s.store.locks.getLsbD g = true →
         exec (.lockCalibration tag group) s = .next (s.replying (replyOf 0x52 tag [0])))
     ∧ (4 ≤ g → g < 10 → exec (.lockCalibration tag group) s = .next (s.replying (replyOf 0x52 tag [3])))
     ∧ (s.store.locks.getLsbD 3 = false → s.fe.ring.length = 16 → s.jk.st.isIdle = true →
         exec (.zeroTilt tag) s =
           .next ((writing (.tilt
               (divRound (s.fe.ring.map (·.1)).sum 16 + s.store.active.tiltCal.pitch)
               (divRound (s.fe.ring.map (·.2)).sum 16 + s.store.active.tiltCal.roll))).replying (replyOf 0x53 tag [0]))))
    ∧ (∀ (s : State) (tag group item : Byte) (v : Half), s.ready →
        (s.store.job ≠ none →
          exec (.storeTables tag) s = .next (s.replying (replyOf 0x36 tag [10]))
            ∧ exec (.zeroTilt tag) s = .next (s.replying (replyOf 0x53 tag [10]))
            ∧ (group.toNat < 10 → exec (.lockCalibration tag group) s = .next (s.replying (replyOf 0x52 tag [10])))
            ∧ (item.toNat < itemCount group → itemPresent s.straps group.toNat item.toNat = true →
                exec (.writeSetting tag group item v) s = .next (s.replying (replyOf 0x51 tag [10]))))
        ∧ (s.store.job = none →
            (s.store.locks.getLsbD 3 = true → exec (.zeroTilt tag) s = .next (s.replying (replyOf 0x53 tag [8])))
            ∧ (item.toNat < itemCount group → itemPresent s.straps group.toNat item.toNat = true →
                s.isLocked group.toNat = true →
                exec (.writeSetting tag group item v) s = .next (s.replying (replyOf 0x51 tag [8])))))

/-- The completion of a store write puts the value used, the offsets or the lock in force; the tables go to the stored
copy alone (R175, R177 to R179). -/
def Obligations.StoreWriteTakesEffect : Prop :=
  ∀ (s : State) (j : StoreJob) (d : Nat), s.power = .awake → s.store.job = some (j, d) →
    ∃ t, exec .storeWriteComplete s = .next t ∧ t.store.job = none ∧ t.guard = s.guard
      ∧ t.fe.pitch = s.fe.pitch ∧ t.fe.roll = s.fe.roll
      ∧ (match j with
        | .item g i v => i < itemCount (byteNum g) → g < 8 →
          itemValue t.store.active g i = some v ∧ itemValue t.store.stored g i = some v
            ∧ (∀ h k, (h, k) ≠ (g, i) → itemValue t.store.active h k = itemValue s.store.active h k)
            ∧ t.store.locks = s.store.locks
            ∧ t.fe.ring = if g = 3 ∧ itemValue s.store.active 3 i ≠ some v then [] else s.fe.ring
        | .tables e w =>
          t.store.storedEnvelope = e ∧ t.store.storedWatches = w ∧ t.store.active = s.store.active
            ∧ t.store.locks = s.store.locks ∧ t.fe.ring = s.fe.ring
        | .tilt p r =>
          itemValue t.store.active 3 0 = some p ∧ itemValue t.store.active 3 1 = some r ∧ t.fe.ring = []
            ∧ t.store.locks = s.store.locks
        | .lock g =>
          t.store.active = s.store.active ∧ t.store.stored = s.store.stored ∧ t.fe.ring = s.fe.ring
            ∧ (∀ k, k < 4 → t.store.locks.getLsbD k = (s.store.locks.getLsbD k || decide (k = g))))

/-! ## Taking motion -/

/-- The permits are tested in the order of their table, and the first that fails names the reason (R118): for a JACKS
operation, for a room, and for an awning extension. -/
def Obligations.PermitsRefuseInOrder : Prop :=
  ∀ (s : State) (tag code : Byte) (r : RoomId) (v : Half), s.ready →
    let key := (s.keyOn, (4 : Byte))
    let low := (s.arb.lowVoltage, (5 : Byte))
    let brake := (s.brakeReleased, (1 : Byte))
    (s.jk.st.isIdle = true → s.anyJackFault = false → (∀ c ∈ s.levelChannels, s.usable c = true) →
        firstCode [key, low, (s.frozen .jacks, 6), brake, (!s.ignition, 2)] = some code →
        exec (.levelAuto tag) s = .next (s.replying (replyOf 0x14 tag [6, code]))
          ∧ exec (.levelStow tag) s = .next (s.replying (replyOf 0x14 tag [6, code])))
    ∧ (s.straps.hasRoom r = true → (s.room r).st = .idle → (∀ c ∈ roomChannels r, s.usable c = true) →
        firstCode [key, low, (s.frozen (.room r), 6), brake] = some code →
        exec (.home tag r) s = .next (s.replying (replyOf 0x13 tag [6, code])))
    ∧ (s.straps.awning = true → s.aw.st = .idle → s.aw.known = true → s.usable .awning = true →
        firstCode [key, low, (s.frozen .awning, 6), brake, (s.ignition, 3), (s.wind.lockout, 9)] = some code →
        exec (.awningMove tag .out v) s = .next (s.replying (replyOf 0x10 tag [6, code])))
    ∧ (s.straps.awning = true → s.aw.st = .idle → s.usable .awning = true →
        firstCode [key, low, (s.frozen .awning, 6)] = some code →
        exec (.awningHome tag) s = .next (s.replying (replyOf 0x13 tag [6, code])))

/-- A MOVE of a known room whose draw fits is granted in the same event: the pin is driven to withdraw; with the pin
already WITHDRAWN a MOVE OUT drives both ends outward, and a lead at the fault limit ends it with SYNC_FAULT before
any drive is driven; nothing else of the coach changes (R55 to R60). The model's own choices in it: notes 15, 36. -/
def Obligations.RoomMoveTaken : Prop :=
  (∀ (s : State) (tag : Byte) (r : RoomId) (e : EndCode) (v : Half),
     let n := clampTravel (s.store.active.roomCal.get r).travel v
     let cap := s.roomCapture r
     s.ready → s.roomClear r (moveExtends e n (s.sense r).fore.live) → (s.room r).known = true →
     (e = .inn → (s.sense r).bothIn = false) → (s.sense r).pin ≠ .withdrawn → s.fits cap.draw →
     ∃ t, exec (.move tag r e v) s = .next t ∧ s.hasReply t (replyOf 0x10 tag (0 :: moveFields e v n))
       ∧ t.room r = { s.room r with
           st := .work .preparing, home := false, target := moveTarget e n, causes := .none, lapsed := false, cap := cap
           foreStopped := false, aftStopped := false, holdLeft := some cap.run.holdLapse.toNat, resumeLeft := none
           pinLeft := some 1500, ctrlLeft := none, runMs := 0 }
       ∧ (t.chan (.pin r)).mode = .driven .first 100 ∧ (∀ c, c ≠ .pin r → (t.chan c).mode = (s.chan c).mode)
       ∧ t.arb.grants = s.arb.grants ++ [{ holder := .room r, cls := .room, draw := cap.draw }] ∧ t.arb.waiting = []
       ∧ t.guard.roomWork = s.guard.roomWork.set r true ∧ t.guard.jackWork = false
       ∧ (∀ q, q ≠ r → t.room q = s.room q) ∧ t.jk = s.jk ∧ t.aw = s.aw ∧ t.fe = s.fe ∧ t.sa.records = s.sa.records
       ∧ t.framed = s.framed)
    ∧ (∀ (s : State) (tag : Byte) (r : RoomId) (v : Half),
        let cap := s.roomCapture r
        s.ready → s.roomClear r true → (s.room r).known = true → (s.sense r).pin = .withdrawn → s.fits cap.draw →
        s.roomStill r → s.holds (.room r) = false →
        ∃ t, exec (.move tag r .out v) s = .next t ∧ s.hasReply t (replyOf 0x10 tag [0, 0, 0, 0])
          ∧ (s.lead r < cap.run.faultLimit →
              (t.room r).st = .work .moving ∧ (t.room r).endPos = .unknown ∧ (t.room r).known = true
                ∧ (t.room r).ctrlLeft = some 50
                ∧ (t.chan (.drive r .fore)).mode = .driven .first cap.run.extendDuty
                ∧ (t.chan (.drive r .aft)).mode = .driven .first cap.run.extendDuty ∧ t.driven (.pin r) = false
                ∧ t.arb.grants = s.arb.grants ++ [{ holder := .room r, cls := .room, draw := cap.draw }])
          ∧ (cap.run.faultLimit ≤ s.lead r →
              t.endedWith (.room r) .syncFault ∧ t.roomStill r ∧ (t.room r).known = false ∧ (t.room r).endPos = .unknown
                ∧ t.arb.grants = s.arb.grants ∧ t.guard.roomWork.get r = false))
    ∧ (∀ (s : State) (tag : Byte) (r : RoomId) (v : Half),
        let cap := s.roomCapture r
        s.ready → s.roomClear r false → (s.room r).known = true → (s.sense r).bothIn = true →
        (s.sense r).pin ≠ .engaged → s.fits cap.draw →
        ∃ t, exec (.move tag r .inn v) s = .next t ∧ s.hasReply t (replyOf 0x10 tag [0, 0, 0, 0])
          ∧ (t.room r).st = .work .settling ∧ (t.room r).endPos = .unknown ∧ (t.room r).known = true
          ∧ (t.room r).pinLeft = some 1500 ∧ (t.room r).holdLeft = none ∧ (t.chan (.pin r)).mode = .driven .second 100
          ∧ t.driven (.drive r .fore) = false ∧ t.driven (.drive r .aft) = false
          ∧ t.arb.grants = s.arb.grants ++ [{ holder := .room r, cls := .room, draw := cap.draw }]
          ∧ t.guard.roomWork = s.guard.roomWork.set r true ∧ t.jk = s.jk ∧ t.aw = s.aw ∧ t.fe = s.fe)

/-- A MOVE or HOME whose draw does not fit waits with every channel as it was, its hold timer running (R56, R106). -/
def Obligations.RoomWaitsForSupply : Prop :=
  ∀ (s : State) (tag : Byte) (r : RoomId) (v : Half),
    let cap := s.roomCapture r
    s.ready → s.inAndLocked r = false → s.mustWait cap.draw →
    let waits := fun (t : State) => (t.room r).st = .work .waitSupply
      ∧ (t.room r).holdLeft = some cap.run.holdLapse.toNat
      ∧ t.arb.waiting = [{ holder := .room r, cls := .room, draw := cap.draw, before := false }]
      ∧ t.arb.grants = s.arb.grants ∧ (∀ c, (t.chan c).mode = (s.chan c).mode)
      ∧ t.guard.roomWork = s.guard.roomWork.set r true ∧ t.sa.records = s.sa.records ∧ t.framed = s.framed
    (s.roomClear r false → ∃ t, exec (.home tag r) s = .next t ∧ s.hasReply t (replyOf 0x13 tag [0]) ∧ waits t
        ∧ (t.room r).home = true)
    ∧ (s.roomClear r true → (s.room r).known = true → ∃ t, exec (.move tag r .out v) s = .next t
        ∧ s.hasReply t (replyOf 0x10 tag [0, 0, 0, 0]) ∧ waits t ∧ (t.room r).home = false)

/-- A MOVE IN or HOME of a room in and locked, and of the awning at its switch, arrives at once: no grant, no claim,
no channel; a HOME zeroes the counts and makes the position known (R43, R56, R77, R84, R89). The model's own choices
in it: notes 15, 33. -/
def Obligations.ArrivalsAtOnce : Prop :=
  (∀ (s : State) (tag : Byte) (r : RoomId) (v : Half), s.ready → s.roomClear r false → s.inAndLocked r = true →
     let arrived := fun (t : State) (op : Operation) (fore aft : Int) =>
       t.arb = s.arb ∧ t.ch = s.ch ∧ t.guard = s.guard ∧ t.aw = s.aw ∧ t.framed = s.framed
         ∧ (t.room r).st = .idle ∧ (t.room r).endPos = .inn ∧ (∀ q, q ≠ r → t.room q = s.room q)
         ∧ t.sa.records = s.sa.records.set (.room r)
             (some { op := op, reason := .arrived, positions := .room fore aft, runMs := 0, peak := 0 })
         ∧ t.sa.groups = s.sa.groups.set (.room r) true
         ∧ t.jk = (if s.jk.st = .idle .levelled then
             { s.jk with driftLeft := some s.jk.cap.level.settleMs.toNat, driftWait := false } else s.jk)
     (∃ t, exec (.home tag r) s = .next t ∧ s.hasReply t (replyOf 0x13 tag [0]) ∧ arrived t .home 0 0
         ∧ (t.sense r).fore = .zero ∧ (t.sense r).aft = .zero ∧ (t.room r).known = true)
     ∧ ((s.room r).known = true → ∃ t, exec (.move tag r .inn v) s = .next t
         ∧ s.hasReply t (replyOf 0x10 tag [0, 0, 0, 0])
         ∧ arrived t .move (s.sense r).fore.live (s.sense r).aft.live ∧ t.fe = s.fe ∧ (t.room r).known = true))
    ∧ (∀ (s : State) (tag : Byte) (v : Half), s.ready → s.awningClear false → s.stowed = true →
        let arrived := fun (t : State) (op : Operation) (count : Int) =>
          t.arb = s.arb ∧ t.ch = s.ch ∧ t.guard = s.guard ∧ t.jk = s.jk ∧ t.rooms = s.rooms ∧ t.framed = s.framed
            ∧ t.aw = { s.aw with known := true, endPos := .inn } ∧ t.sa.groups = s.sa.groups.set .awning true
            ∧ t.sa.records = s.sa.records.set .awning
                (some { op := op, reason := .arrived, positions := .awning count, runMs := 0, peak := 0 })
        (∃ t, exec (.awningHome tag) s = .next t ∧ s.hasReply t (replyOf 0x13 tag [0]) ∧ arrived t .home 0
            ∧ t.fe.awningCount = .zero)
        ∧ (s.aw.known = true → ∃ t, exec (.awningMove tag .inn v) s = .next t
            ∧ s.hasReply t (replyOf 0x10 tag [0, 0, 0, 0]) ∧ arrived t .move s.fe.awningCount.live ∧ t.fe = s.fe))

/-- LEVEL AUTO: with the air suspension present and not exhausted the run enters AIR_DUMP with DUMP_REQ asserted and
no grant; without air suspension it asks for the pump and, granted, stands in TOUCHDOWN with every channel as it was
(R23 to R26). -/
def Obligations.LevelAutoTaken : Prop :=
  ∀ (s : State) (tag : Byte), s.ready → s.jacksClear s.levelChannels true true →
    (s.filterFull = true → s.tiltWithin s.store.active.level.steepness = true) →
    let taken := fun (t : State) => t.jk.cap = s.jackCapture ∧ t.jk.passes = 0 ∧ t.jk.runMs = 0 ∧ t.jk.driftLeft = none
      ∧ t.jk.touch = .all none ∧ t.jk.steepDone = s.filterFull ∧ t.jk.result = s.jk.result ∧ t.guard.jackWork = true
      ∧ t.othersAsIn s ∧ (∀ c, (t.chan c).mode = (s.chan c).mode) ∧ t.fe = s.fe ∧ t.sa.records = s.sa.records
      ∧ t.framed = s.framed
    (s.straps.airsusp = true → s.inputs.airDumped.level = false →
      ∃ t, exec (.levelAuto tag) s = .next t ∧ s.hasReply t (replyOf 0x14 tag [0]) ∧ taken t
        ∧ t.jk.st = .work (.levelling .airDump) ∧ t.jk.airLeft = some 45000 ∧ t.jk.dumpReq = true ∧ t.arb = s.arb)
    ∧ (s.straps.airsusp = false → s.fits s.jackCapture.draw →
      ∃ t, exec (.levelAuto tag) s = .next t ∧ s.hasReply t (replyOf 0x14 tag [0]) ∧ taken t
        ∧ t.jk.st = .work (.levelling .touchdown) ∧ t.jk.airLeft = none ∧ t.jk.dumpReq = s.jk.dumpReq
        ∧ t.arb.grants = s.arb.grants ++ [{ holder := .jacks, cls := .levelling, draw := s.jackCapture.draw }])

/-- LEVEL STOW arrives at once on a retracted group; otherwise, granted, it drives the retract valve of every present
jack above 5 mm and the pump, and the highest readings of its channels start again (R45, R46, R142, R143). The model's
own choices in it: notes 32. -/
def Obligations.LevelStowTaken : Prop :=
  ∀ (s : State) (tag : Byte), s.ready → s.jacksClear s.levelChannels false true →
    (s.jk.st = .idle .retracted →
      ∃ t, exec (.levelStow tag) s = .next t ∧ s.hasReply t (replyOf 0x14 tag [0]) ∧ t.jk = s.jk ∧ t.arb = s.arb
        ∧ t.ch = s.ch ∧ t.guard = s.guard ∧ t.sa.groups.jacks = true
        ∧ t.sa.records = s.sa.records.set .jacks
            (some { op := .levelStow, reason := .arrived, positions := s.strokeRecord, runMs := 0, peak := 0 }))
    ∧ (s.jk.st ≠ .idle .retracted → s.fits s.jackCapture.draw →
      ∃ t, exec (.levelStow tag) s = .next t ∧ s.hasReply t (replyOf 0x14 tag [0]) ∧ t.jk.st = .work .stowing
        ∧ t.jk.runMs = 0 ∧ t.guard.jackWork = true ∧ t.othersAsIn s ∧ t.sa.records = s.sa.records ∧ t.framed = s.framed
        ∧ (∀ j ∈ s.presentJacks, s.retracted j = false → (t.chan (.valve j)).mode = .driven .second 100)
        ∧ (∀ j, s.retracted j = true → (t.chan (.valve j)).mode = (s.chan (.valve j)).mode)
        ∧ ((∃ j ∈ s.presentJacks, s.retracted j = false) → t.driven .pump = true)
        ∧ (∀ c, (t.chan c).peak = if c.owner = .jacks then 0 else (s.chan c).peak)
        ∧ t.arb.grants = s.arb.grants ++ [{ holder := .jacks, cls := .levelling, draw := s.jackCapture.draw }])

/-- A jog is clamped to 0 to S; granted and away from its target, it drives its valve towards it, with DUMP_REQ
asserted for an extension (R47, R48, R22). -/
def Obligations.JogTaken : Prop :=
  ∀ (s : State) (tag : Byte) (j : JackId) (v : Half),
    let target := s.jogTarget v
    let ext := decide (s.strokeD j < target)
    s.ready → s.straps.hasJack j = true → s.jacksClear [.pump, .valve j] ext (!ext) → s.fits s.jackCapture.draw →
    2 < absInt (s.strokeD j - target) →
    ∃ t, exec (.jog tag j v) s = .next t
      ∧ s.hasReply t (replyOf 0x10 tag (0 :: (if v.toInt = target then 0 else 1) :: bytes2 target))
      ∧ t.jk.st = .work .jogging ∧ t.jk.jog = some { jack := j, target := target, runMs := 0 }
      ∧ t.jk.holdLeft = some s.store.active.roomRun.holdLapse.toNat
      ∧ t.jk.dumpReq = (if ext then s.straps.airsusp else s.jk.dumpReq)
      ∧ (t.chan (.valve j)).mode = .driven (if ext then .first else .second) 100 ∧ t.driven .pump = true
      ∧ (∀ k, k ≠ j → (t.chan (.valve k)).mode = (s.chan (.valve k)).mode)
      ∧ t.arb.grants = s.arb.grants ++ [{ holder := .jacks, cls := .levelling, draw := s.jackCapture.draw }]
      ∧ t.guard.jackWork = true ∧ t.othersAsIn s ∧ t.fe = s.fe ∧ t.framed = s.framed

/-- An awning MOVE away from its target, granted, drives channel 19 towards it at 100 %, and so does one that a RESUME
lets go on, but with the park brake released nothing is driven outward, and such a move ends with INTERLOCK; a HOME
with the switch open drives it inward at 50 % (R83 to R85, R88, R89, R119). The model's own choices in it: notes 11,
15. -/
def Obligations.AwningDrives : Prop :=
  (∀ (s : State) (tag : Byte) (e : EndCode) (v : Half),
    let n := clampTravel s.store.active.awningCal.travel v
    let goal := (match e with | .out => s.store.active.awningCal.travel | _ => n)
    let ext := moveExtends e n s.fe.awningCount.live
    s.ready → s.fits s.awningCapture.draw →
    let drives := fun (t : State) (op : AwningOp) (dir : ChanDir) (duty : Int) =>
      t.aw.st = .work .moving ∧ t.aw.op = op ∧ t.aw.endPos = .unknown ∧ t.aw.known = s.aw.known ∧ t.aw.runMs = 0
        ∧ t.aw.cap = s.awningCapture ∧ (t.chan .awning).mode = .driven dir duty
        ∧ (∀ c, c ≠ .awning → t.chan c = s.chan c)
        ∧ t.arb.grants = s.arb.grants ++ [{ holder := .awning, cls := .awning, draw := s.awningCapture.draw }]
        ∧ t.jk = s.jk ∧ t.rooms = s.rooms ∧ t.guard = s.guard ∧ t.fe = s.fe ∧ t.framed = s.framed
    (e ≠ .inn → s.aw.known = true → s.awningClear ext →
        8 < absInt (s.fe.awningCount.handed - goal) →
        ∃ t, exec (.awningMove tag e v) s = .next t ∧ s.hasReply t (replyOf 0x10 tag (0 :: moveFields e v n))
          ∧ (if s.fe.awningCount.handed < goal ∧ s.inputs.parkSet.level = false then
              t.endedWith .awning .interlock ∧ t.groupOff .awning ∧ t.aw.known = true ∧ t.fe = s.fe
                ∧ (∀ c, c ≠ .awning → t.chan c = s.chan c) ∧ t.jk = s.jk ∧ t.rooms = s.rooms ∧ t.framed = s.framed
            else drives t .move (if s.fe.awningCount.handed < goal then .first else .second) 100))
    ∧ (s.stowed = false → s.awningClear false →
        ∃ t, exec (.awningHome tag) s = .next t ∧ s.hasReply t (replyOf 0x13 tag [0]) ∧ drives t .home .second 50))
    ∧ (∀ (s : State) (tag : Byte) (goal : Int), s.ready → s.straps.awning = true → s.frozen .awning = true →
        s.aw.st = .suspended .moving →
        s.aw.causes = { Causes.none with freeze := true } → s.aw.op = .move → s.aw.targetCount = some goal →
        8 < absInt (s.fe.awningCount.handed - goal) →
        ∃ t, exec (.resume tag 0x20) s = .next t ∧ s.hasReply t (replyOf 0x15 tag [0, 0x20])
          ∧ t.frozen .awning = false
          ∧ (if s.fe.awningCount.handed < goal ∧ s.inputs.parkSet.level = false then
              s.aw.pendingStow = none → t.endedWith .awning .interlock ∧ t.groupOff .awning ∧ t.aw.known = s.aw.known
            else
              t.aw.st = .work .moving ∧ t.aw.causes = .none ∧ t.aw.target = s.aw.target ∧ t.aw.runMs = s.aw.runMs
                ∧ t.aw.endPos = .unknown
                ∧ (t.chan .awning).mode = .driven (if s.fe.awningCount.handed < goal then .first else .second) 100
                ∧ (∀ c, c ≠ .awning → t.chan c = s.chan c) ∧ t.arb = s.arb ∧ t.jk = s.jk ∧ t.rooms = s.rooms))

/-! ## HOLD, STOP, RESUME -/

/-- A HOLD restarts the hold timer of every axis it names that runs under hold-to-run, counts it, and leaves every
other group as it was (R49, R68); an axis whose hold has lapsed is the matter of SuspendedRoomGoesOn. -/
def Obligations.HoldRestartsTimers : Prop :=
  ∀ (s : State) (tag mask : Byte), s.ready → maskWithin 6 mask = true →
    s.jk.causes.holdLapse = false → (∀ r, (s.room r).causes.holdLapse = false) →
    let held := fun (r : RoomId) => s.straps.hasRoom r && inMask mask (.room r) && s.roomHoldable r
    let jog := inMask mask .jacks && s.jk.st.isJog
    ∃ t, exec (.hold tag mask) s = .next t
      ∧ s.hasReply t (replyOf 0x11 tag [0, byteNum ((RoomId.all.filter held).length + if jog then 1 else 0)])
      ∧ (∀ r, t.room r = if held r then
          { s.room r with holdLeft := some (s.room r).cap.run.holdLapse.toNat, lapsed := false, resumeLeft := none }
        else s.room r)
      ∧ t.jk = (if jog then
          { s.jk with holdLeft := some s.jk.cap.holdLapse, lapsed := false, resumeLeft := none } else s.jk)
      ∧ t.aw = s.aw ∧ t.arb = s.arb ∧ t.ch = s.ch ∧ t.guard = s.guard ∧ t.fe = s.fe ∧ t.sa.records = s.sa.records
      ∧ t.framed = s.framed

/-- A HOLD that takes HOLD_LAPSE out of a cause set with nothing else in it lets a room that was moving out move on,
and so does a RESUME of a frozen one; a hold that lapsed while it was frozen becomes HOLD_LAPSE then (R59, R68, R72,
R73, R137). -/
def Obligations.SuspendedRoomGoesOn : Prop :=
  (∀ (s : State) (tag : Byte) (r : RoomId), s.ready → s.straps.hasRoom r = true →
     (s.room r).st = .suspended .moving → (s.room r).causes = { Causes.none with holdLapse := true } →
     (s.room r).target = .out → (s.room r).home = false → (s.room r).foreStopped = false →
     (s.room r).aftStopped = false → s.lead r < (s.room r).cap.run.faultLimit → s.roomStill r →
     ∃ t, exec (.hold tag (byteNum (2 ^ (r.num + 1)))) s = .next t ∧ s.hasReply t (replyOf 0x11 tag [0, 1])
       ∧ (t.room r).st = .work .moving ∧ (t.room r).causes = .none
       ∧ (t.room r).holdLeft = some (s.room r).cap.run.holdLapse.toNat ∧ (t.room r).resumeLeft = none
       ∧ (t.room r).runMs = (s.room r).runMs ∧ (t.room r).endPos = .unknown
       ∧ (t.chan (.drive r .fore)).mode = .driven .first (s.room r).cap.run.extendDuty
       ∧ (t.chan (.drive r .aft)).mode = .driven .first (s.room r).cap.run.extendDuty
       ∧ t.arb = s.arb ∧ t.guard = s.guard ∧ t.jk = s.jk ∧ t.aw = s.aw ∧ t.framed = s.framed)
    ∧ (∀ (s : State) (tag : Byte) (r : RoomId), s.ready → s.straps.hasRoom r = true → s.frozen (.room r) = true →
        (s.room r).st = .suspended .moving → (s.room r).causes = { Causes.none with freeze := true } →
        (s.room r).target = .out → (s.room r).home = false → (s.room r).foreStopped = false →
        (s.room r).aftStopped = false → s.lead r < (s.room r).cap.run.faultLimit → s.roomStill r →
        ∃ t, exec (.resume tag (byteNum (2 ^ (r.num + 1)))) s = .next t
          ∧ s.hasReply t (replyOf 0x15 tag [0, byteNum (2 ^ (r.num + 1))]) ∧ t.frozen (.room r) = false ∧ t.arb = s.arb
          ∧ ((s.room r).lapsed = false → (t.room r).st = .work .moving ∧ (t.room r).causes = .none
              ∧ (t.chan (.drive r .fore)).mode = .driven .first (s.room r).cap.run.extendDuty
              ∧ (t.chan (.drive r .aft)).mode = .driven .first (s.room r).cap.run.extendDuty)
          ∧ ((s.room r).lapsed = true → (t.room r).st = .suspended .moving
              ∧ (t.room r).causes = { Causes.none with holdLapse := true } ∧ (t.room r).lapsed = false
              ∧ (t.room r).resumeLeft = some ((s.room r).cap.run.resumeWindow.toNat * 1000) ∧ t.roomStill r))

/-- STOP ends every operation of the groups it names with HOST_STOP, but a stow, and leaves the freeze set; RESUME
takes the groups it names out of the set and reports the ones that were in it (R38, R76, R87, R94, R136, R137). The
model's own choices in it: notes 8. -/
def Obligations.StopAndResume : Prop :=
  (∀ (s : State) (tag mask : Byte), s.ready → maskWithin 6 mask = true →
     ∃ t, exec (.stop tag mask) s = .next t ∧ s.hasReply t (replyOf 0x12 tag [0])
       ∧ (∀ g, inMask mask g = true → s.straps.hasGroup g = true → s.working g → (g = .awning → s.aw.moving = true) →
           t.endedWith g .hostStop)
       ∧ (s.aw.stowing = true → s.waits .awning = false → t.aw = s.aw ∧ t.chan .awning = s.chan .awning)
       ∧ (s.arb.waiting = [] →
           (∀ c, inMask mask c.owner = false → t.chan c = s.chan c) ∧ (inMask mask .awning = false → t.aw = s.aw)
             ∧ ∀ r, inMask mask (.room r) = false → t.room r = s.room r)
       ∧ t.guard.freeze = s.guard.freeze ∧ t.framed = s.framed)
    ∧ (∀ (s : State) (tag mask : Byte), s.ready → maskWithin 6 mask = true →
        ∃ t left, exec (.resume tag mask) s = .next t ∧ s.hasReply t (replyOf 0x15 tag [0, left])
          ∧ (∀ g, t.guard.freeze.get g = (s.guard.freeze.get g && !(inMask mask g && s.straps.hasGroup g)))
          ∧ (∀ g, left.getLsbD (groupBit g) = (s.guard.freeze.get g && inMask mask g && s.straps.hasGroup g))
          ∧ t.framed = s.framed)

/-! ## Circuit tests -/

/-- CIRCUIT_TEST puts the channel and its group under test for 200 ms, with the test current of its class in its first
direction; once 100 ms of it have passed, reading A is taken; at the end the two readings are judged, the health entry
written, and the group is idle again and in the attention set, with no stop record (R140, R147, R149 to R152). The
model's own choices in it: notes 2, 21. -/
def Obligations.CircuitTestRuns : Prop :=
  (∀ (s : State) (tag : Byte) (c : ChannelId),
     (s.ready → s.straps.hasChannel c = true → s.groupIdle c.owner = true → s.test = none → s.frozen c.owner = false →
       s.inputs.parkSet.level = true →
       ∃ t, exec (.circuitTest tag c) s = .next t ∧ s.hasReply t (replyOf 0x40 tag [0])
         ∧ t.test = some { chan := c, left := 200, readingA := none }
         ∧ (t.chan c).mode = .testing .first (match c with | .pin _ => 250 | _ => 1000)
         ∧ t.groupIdle c.owner = false ∧ ¬ t.working c.owner
         ∧ (∀ g, g ≠ c.owner → t.groupIdle g = s.groupIdle g) ∧ (∀ d, d ≠ c → t.chan d = s.chan d)
         ∧ t.arb = s.arb ∧ t.guard = s.guard ∧ t.health = s.health ∧ t.fe = s.fe ∧ t.sa.records = s.sa.records)
     ∧ (∀ (left mA mV : Nat), s.power = .awake → s.test = some { chan := c, left := left, readingA := none } →
       100 ≤ left →
       ∃ t, exec (.testReadingA mA mV) s = .next t
         ∧ t.test = some { chan := c, left := 100, readingA := some { mA := mA, mV := mV, battery := s.fe.battery } }
         ∧ (t.chan c).reading = min 300000 mA ∧ (t.chan c).mode = (s.chan c).mode ∧ t.health = s.health
         ∧ t.clock = s.clock.after (left - 100)))
    ∧ (∀ (s : State) (c : ChannelId) (a : TestReading) (left mA mV : Nat), s.power = .awake →
        s.test = some { chan := c, left := left, readingA := some a } → s.straps.hasChannel c = true →
        s.groupIdle c.owner = false → ¬ s.working c.owner → (c = .awning → s.aw.pendingStow = none) →
        let b : TestReading := { mA := mA, mV := mV, battery := s.fe.battery }
        let p := judgeTest c (s.volts 1100) a b
        let old := s.health.get c
        ∃ t, exec (.testComplete mA mV) s = .next t ∧ t.test = none ∧ (t.chan c).mode = .off
          ∧ (t.health.get c).lastTest = some p.1
          ∧ (t.health.get c).result = (if p.1 = .testFailed ∧ (old.result = .open ∨ old.result = .short) then old.result
              else p.1)
          ∧ (t.health.get c).resistance = (if p.2 = none then old.resistance else p.2)
          ∧ (∀ d, d ≠ c → t.health.get d = s.health.get d) ∧ t.groupIdle c.owner = true
          ∧ (∀ i, s.jk.st = .testing i → c.owner = .jacks → t.jk.st = .idle i)
          ∧ t.sa.groups.get c.owner = true ∧ t.sa.records = s.sa.records ∧ t.arb = s.arb ∧ t.guard = s.guard)

/-- The class of a circuit test and the resistance it writes, in the order of the table (R151). -/
def Obligations.CircuitTestJudged : Prop :=
  ∀ (c : ChannelId) (s : State) (a b : TestReading),
    let low := (match c with | .pin _ => 225 | _ => 900)
    let floor := (match c with | .valve _ => 2000 | .pin _ => 1000 | _ => 20)
    let ceiling := (match c with | .valve _ => 20000 | .pin _ => 30000 | _ => 2000)
    let cutoff : Int := if s.straps.supply24 then 2200 else 1100
    let ra := min 65535 (a.mV * 1000 / a.mA)
    let rb := min 65535 (b.mV * 1000 / b.mA)
    judgeTest c (s.volts 1100) a b =
      if a.mA < low ∨ b.mA < low then (.open, some 65535)
      else if a.battery < cutoff ∨ b.battery < cutoff then (.testFailed, none)
      else if (rb : Int) < |(ra : Int) - rb| * 10 then (.testFailed, none)
      else if rb < floor then (.short, some rb)
      else if ceiling < rb then (.open, some rb)
      else (.normal, some rb)

/-! ## Power -/

/-- DORMANT, RESET and a WAKE of a part that is awake are answered at once; at the end of the DORMANT reply the part
rests if it is still idle, stowed and without an ignition change, and stays awake otherwise (R181, R183, R185). The
model's own choices in it: notes 6. -/
def Obligations.RestAndResetAnswered : Prop :=
  (∀ (s : State) (tag : Byte) (x : SampleSet), s.ready →
     let idle := (∀ g, s.straps.hasGroup g = true → s.groupIdle g = true) ∧ s.arb.grants = [] ∧ s.store.job = none
       ∧ s.test = none
     exec (.reset tag) s = .next (s.replying { replyOf 0x62 tag [0] with after := .reset })
       ∧ exec (.wake tag x) s = .next (s.replying (replyOf 0x61 tag [0]))
       ∧ (¬ idle → exec (.dormant tag) s = .next (s.replying (replyOf 0x60 tag [6, 12])))
       ∧ (idle → s.straps.awning = true → s.stowed = false →
           exec (.dormant tag) s = .next (s.replying (replyOf 0x60 tag [6, 13])))
       ∧ (idle → (s.straps.awning = true → s.stowed = true) →
           exec (.dormant tag) s =
             .next (({ s with link := { s.link with ignitionSeen := false } } : State).replying
               { replyOf 0x60 tag [0] with after := .dormant })))
    ∧ (∀ (s : State) (f : SentFrame) (raw : RawInputs) (x : SampleSet),
        s.power = .awake → s.link.tx = some f → f.after = .dormant →
        let rests := (∀ g, s.straps.hasGroup g = true → s.groupIdle g = true) ∧ s.arb.grants = [] ∧ s.store.job = none
          ∧ s.test = none ∧ (s.straps.awning = true → s.stowed = true) ∧ s.link.ignitionSeen = false
        (¬ rests → exec (.frameTransmitComplete raw x) s = .next ({ s with link := { s.link with tx := none } } : State).kick)
        ∧ (rests → ∃ t, exec (.frameTransmitComplete raw x) s = .next t ∧ t.power = .dormant
            ∧ (∀ c, (t.chan c).mode = .off) ∧ t.fe = { s.fe with ring := [] }
            ∧ t.wind = { s.wind with ring := [], gust := 0, sustained := none }
            ∧ t.jk = { s.jk with driftLeft := none, driftWait := false }
            ∧ t.arb = { s.arb with sagRun := 0, recRun := 0, entRun := 0, exitRun := 0 }
            ∧ t.link.rx = .hunting ∧ (∀ q ∈ t.link.queue, q.kind = 0x01 ∨ q.kind = 0x61)
            ∧ (∀ q ∈ s.link.queue, q.kind = 0x01 ∨ q.kind = 0x61 → q ∈ t.link.queue)
            ∧ t.rooms = s.rooms ∧ t.aw = s.aw ∧ t.guard = s.guard ∧ t.health = s.health ∧ t.sa = s.sa ∧ t.store = s.store
            ∧ t.inputs = s.inputs ∧ t.straps = s.straps))

/-- WAKE and the ignition wake a dormant part: an empty tilt ring takes its first sample, the intervals stand 20 ms
into waking, the sample interval at its start and the wind window with 230 ms left, the base follows the inputs, a
room of which either drive's switch and count disagree, or an awning whose do, becomes unsure, one that agrees keeps
what it knew, the quiet count restarts and SUPERVISION joins with WAKE (R183, R54, R82). The end position of an awning
that a drive-away stow takes in on waking is UNKNOWN (R93, R94). The model's own choices in it: notes 3, 16, 24, 44.
-/
def Obligations.PartWakes : Prop :=
  ∀ (s : State) (tag : Byte) (x : SampleSet), s.power = .dormant →
    let off := fun (made : Bool) (n : Int) => made = true ∧ 24 < |n| ∨ made = false ∧ n ≤ 0
    let woken := fun (t : State) (ignition : Bool) => t.power = .awake ∧ t.fe.pulses = 0
      ∧ t.clock = { sample := 20, input := s.clock.input, reading := 5, wind := 250 - 20 } ∧ t.wind.ring = s.wind.ring
      ∧ (∀ p, x.tilt = some p → |p.1| ≤ 2500 → |p.2| ≤ 2500 → s.fe.ring = [] →
          t.fe.ring = [(p.1 - s.store.active.tiltCal.pitch, p.2 - s.store.active.tiltCal.roll)]
            ∧ t.fe.pitch = s.fe.pitch ∧ t.fe.roll = s.fe.roll)
      ∧ t.straps = s.straps ∧ t.store = s.store ∧ t.sa.supervision = true ∧ t.sa.causes.wake = true
      ∧ t.arb.base = (if s.inputs.engine.level || s.inputs.charging.level then 240 else 160) ∧ t.arb.level = s.arb.level
      ∧ t.wind.quiet = 0 ∧ t.wind.lockout = s.wind.lockout ∧ t.inputs.ignition.level = ignition
      ∧ (∀ r, s.straps.hasRoom r = true →
          let raw := x.rooms.get r
          let q := s.sense r
          let wrong := off raw.foreIn q.fore.live ∨ off raw.aftIn q.aft.live
          (t.sense r).foreIn.made = raw.foreIn ∧ (t.sense r).aftIn.made = raw.aftIn
            ∧ (t.sense r).fore.live = q.fore.live ∧ (t.sense r).aft.live = q.aft.live ∧ (t.room r).st = (s.room r).st
            ∧ (wrong → (t.room r).known = false ∧ (t.room r).endPos = .unknown)
            ∧ (¬ wrong → (t.room r).known = (s.room r).known ∧ (t.room r).endPos = (s.room r).endPos))
      ∧ (s.straps.awning = true →
          let wrong := off x.stowed s.fe.awningCount.live
          t.fe.stowed.made = x.stowed ∧ t.fe.awningCount.live = s.fe.awningCount.live
            ∧ (wrong → t.aw.known = false ∧ t.aw.endPos = .unknown)
            ∧ (¬ wrong → t.aw.known = s.aw.known)
            ∧ (¬ wrong → (x.stowed = true ∨ (ignition = false ∧ s.inputs.parkSet.level = true)) →
                t.aw.endPos = s.aw.endPos))
    (∀ g, s.groupIdle g = true) → s.arb.grants = [] → s.arb.waiting = [] →
    (s.link.slot = none → s.ending = false →
      ∃ t, exec (.wake tag x) s = .next t ∧ s.hasReply t (replyOf 0x61 tag [0]) ∧ woken t s.inputs.ignition.level)
    ∧ (s.inputs.ignition.level = false → 5 ≤ s.inputs.ignition.run →
      ∃ t, exec (.ignitionOn x) s = .next t ∧ woken t true)

/-- Start-up after power-on: straps read, the groups, the guard, the arbiter, the health table, the records and the
link at their reset values, the lock cells kept; each settings group checked, one that fails used at its defaults and
marked, and written back unless it is a locked calibration group (R176); a defaulted store told by its cause, and the
RESET notice being sent; a parked coach starts no stow, and an awning that is out with the ignition on or the brake
released is stowed, or its stow is pending under the key (R1, R20, R53, R82, R93 to R95, R115, R122, R138, R141, R148,
R160, R163, R171, R184). The model's own choices in it: notes 16, 24. -/
def Obligations.PowerOnStartsUp : Prop :=
  (∀ (s : State) (pins : StrapPins) (raw : RawInputs) (x : SampleSet),
     ∃ t, exec (.powerOn pins raw x) s = .next t ∧ t.power = .awake
       ∧ t.straps = { sixJacks := pins.sixJacks, rooms := min 4 pins.roomPins.toNat, awning := pins.awning
                      supply24 := pins.supply24, airsusp := pins.airsusp }
       ∧ t.clock = { sample := 20, input := 10, reading := 5, wind := 250 } ∧ t.store.locks = s.store.locks
       ∧ t.store.job = none
       ∧ (s.store.job = none →
           let ok := fun (g : Nat) => s.store.checkOk.getLsbD g
           let kept := fun (g : Nat) => ok g || (decide (g < 4) && s.store.locks.getLsbD g)
           (∀ g, g < 10 → t.store.defaulted.getLsbD g = !ok g ∧ t.store.checkOk.getLsbD g = (ok g || !kept g))
           ∧ (∀ g i, g < 8 → i < itemCount (byteNum g) →
               itemValue t.store.active g i = itemValue (if ok g then s.store.stored else Config.factory) g i
                 ∧ itemValue t.store.stored g i = itemValue (if kept g then s.store.stored else Config.factory) g i)
           ∧ t.store.storedEnvelope = (if ok 8 then s.store.storedEnvelope else Config.factoryEnvelope)
           ∧ t.store.storedWatches = (if ok 9 then s.store.storedWatches else Config.factoryWatches))
       ∧ t.guard.envelope.map (·.contents) = t.store.storedEnvelope
       ∧ t.guard.watches.map (·.contents) = t.store.storedWatches
       ∧ t.inputs.parkSet = { level := raw.parkSet, latch := raw.parkSet, run := 0 }
       ∧ t.inputs.keyOff = { level := raw.keyOff, latch := raw.keyOff, run := 0 }
       ∧ (∀ g, t.guard.freeze.get g = false) ∧ t.guard.jackWork = false ∧ t.guard.anyRoomWork = false
       ∧ (∀ e ∈ t.guard.envelope, e.locked = false) ∧ (∀ u ∈ t.guard.watches, u.hit = false)
       ∧ t.arb.base = (if raw.engine || raw.charging then 240 else 160) ∧ t.arb.level = 0 ∧ t.arb.waiting = []
       ∧ (∀ c, t.health.get c = { result := .untested, lastTest := none, resistance := none }) ∧ t.test = none
       ∧ (∀ g, t.sa.records.get g = none ∧ t.sa.groups.get g = false) ∧ t.sa.supervision = true ∧ t.sa.causes.reset = true
       ∧ t.sa.causes.storeDefaulted = decide (t.store.defaulted ≠ 0)
       ∧ t.link.rx = .hunting ∧ t.link.queue = [] ∧ t.link.slot = none
       ∧ t.link.tx = some { kind := 0x7F, tag := 0
                            payload := [0x40, if t.store.defaulted = 0 then 0x01 else 0x81], after := .nothing }
       ∧ (∀ r, t.straps.hasRoom r = true → (t.room r).st = .idle
           ∧ (t.room r).known = ((x.rooms.get r).foreIn && (x.rooms.get r).aftIn)
           ∧ (t.sense r).fore = .zero ∧ (t.sense r).aft = .zero)
       ∧ t.jk.st = .idle (if t.allRetracted then .retracted else .down)
       ∧ t.jk.dumpReq = (pins.airsusp && !t.allRetracted)
       ∧ (pins.awning = false ∨ x.stowed = true ∨ (raw.ignition = false ∧ raw.parkSet = true) →
           t.aw.st = .idle ∧ t.arb.grants = [] ∧ ∀ c, (t.chan c).mode = .off))
    ∧ (∀ (s : State) (pins : StrapPins) (raw : RawInputs) (x : SampleSet),
        pins.awning = true → x.stowed = false → (raw.ignition = true ∨ raw.parkSet = false) →
        ∃ t, exec (.powerOn pins raw x) s = .next t
          ∧ (raw.keyOff = true → t.aw.st = .work .stowing ∧ t.aw.stowCause = some .driveAway
              ∧ (t.chan .awning).mode = .driven .second 100 ∧ t.aw.pendingStow = none
              ∧ t.arb.grants = [{ holder := .awning, cls := .stow, draw := t.store.active.supply.awning.toNat }])
          ∧ (raw.keyOff = false → t.aw.st = .idle ∧ t.aw.pendingStow = some .driveAway ∧ t.arb.grants = []))

/-- Loss of supply turns everything off and keeps the stored copies and the lock cells; the group of a write in flight
fails its next check (R175 to R177, R179, R184). The model's own choices in it: notes 9, 19, 26. -/
def Obligations.PowerLossKeepsTheStore : Prop :=
  ∀ (s : State) (torn : TornTables), s.power ≠ .off →
    ∃ t, exec (.powerLoss torn) s = .next t ∧ t.power = .off ∧ (∀ c, (t.chan c).mode = .off)
      ∧ t.sa.stowedLine = false ∧ t.sa.jacksLine = false ∧ t.jk.dumpReq = false
      ∧ t.store.stored = s.store.stored ∧ t.store.storedEnvelope = s.store.storedEnvelope
      ∧ t.store.storedWatches = s.store.storedWatches ∧ t.store.locks = s.store.locks
      ∧ (s.store.job = none → t.store.checkOk = s.store.checkOk)
      ∧ (∀ g i v d, g < 10 → s.store.job = some (.item g i v, d) → t.store.checkOk.getLsbD g = false
          ∧ ∀ k, k < 10 → k ≠ g → t.store.checkOk.getLsbD k = s.store.checkOk.getLsbD k)
      ∧ (∀ p r d, s.store.job = some (.tilt p r, d) → t.store.checkOk.getLsbD 3 = false
          ∧ ∀ k, k < 10 → k ≠ 3 → t.store.checkOk.getLsbD k = s.store.checkOk.getLsbD k)
      ∧ (∀ e w d, s.store.job = some (.tables e w, d) →
          t.store.checkOk.getLsbD 8 = (s.store.checkOk.getLsbD 8 && decide (torn = .watch))
            ∧ t.store.checkOk.getLsbD 9 = (s.store.checkOk.getLsbD 9 && decide (torn = .envelope))
            ∧ ∀ k, k < 8 → t.store.checkOk.getLsbD k = s.store.checkOk.getLsbD k)
      ∧ (∀ g d, s.store.job = some (.lock g, d) → t.store.checkOk = s.store.checkOk)

/-- Soft reset, at the end of its reply: straps, counts, lock cells and marks kept, a write in flight completed in the
stored copies, and the active copies and tables loaded from them, or from the defaults where a copy does not pass; the
groups, the claim, the freeze set, the records, the health table and the link at their start-up values, operations cut
off without a record and their rooms and awning unsure (R185, R53, R82, R128, R135, R176). The model's own choices in
it: notes 13, 24. -/
def Obligations.SoftResetStartsOver : Prop :=
  ∀ (s : State) (f : SentFrame) (raw : RawInputs) (x : SampleSet),
    s.power = .awake → s.link.tx = some f → f.after = .reset →
    ∃ t, exec (.frameTransmitComplete raw x) s = .next t ∧ t.power = .awake ∧ t.straps = s.straps
      ∧ t.store.locks = (match s.store.job with
          | some (.lock g, _) => s.store.locks ||| BitVec.ofNat 4 (2 ^ g) | _ => s.store.locks)
      ∧ t.store.defaulted = s.store.defaulted ∧ t.store.job = none
      ∧ (∀ g i v d, s.store.job = some (.item g i v, d) → g < 8 → i < itemCount (byteNum g) →
          itemValue t.store.stored g i = some v ∧ t.store.checkOk.getLsbD g = true
            ∧ ∀ h k, (h, k) ≠ (g, i) → itemValue t.store.stored h k = itemValue s.store.stored h k)
      ∧ (∀ p r d, s.store.job = some (.tilt p r, d) → t.store.checkOk.getLsbD 3 = true
          ∧ itemValue t.store.stored 3 0 = some p ∧ itemValue t.store.stored 3 1 = some r
            ∧ ∀ h k, h ≠ 3 → itemValue t.store.stored h k = itemValue s.store.stored h k)
      ∧ (∀ e w d, s.store.job = some (.tables e w, d) → t.store.storedEnvelope = e ∧ t.store.storedWatches = w
          ∧ t.store.stored = s.store.stored)
      ∧ ((s.store.job = none ∨ ∃ g d, s.store.job = some (.lock g, d)) →
          t.store.stored = s.store.stored ∧ t.store.storedEnvelope = s.store.storedEnvelope
            ∧ t.store.storedWatches = s.store.storedWatches ∧ t.store.checkOk = s.store.checkOk)
      ∧ (∀ g i, g < 8 → itemValue t.store.active g i =
          itemValue (if t.store.checkOk.getLsbD g then t.store.stored else Config.factory) g i)
      ∧ t.guard.envelope.map (·.contents) = t.store.storedEnvelope
      ∧ t.guard.watches.map (·.contents) = t.store.storedWatches
      ∧ (∀ e ∈ t.guard.envelope, e.locked = false) ∧ (∀ u ∈ t.guard.watches, u.hit = false)
      ∧ (s.straps.awning = true → t.fe.awningCount.live = s.fe.awningCount.live
          ∧ (s.working .awning → t.aw.known = false ∧ t.aw.endPos = .unknown)
          ∧ (¬ s.working .awning → t.aw.known = s.aw.known
            ∧ (x.stowed = true ∨ (raw.ignition = false ∧ raw.parkSet = true) → t.aw.endPos = s.aw.endPos)))
      ∧ (∀ r, s.straps.hasRoom r = true → (t.sense r).fore.live = (s.sense r).fore.live
          ∧ (t.sense r).aft.live = (s.sense r).aft.live ∧ (t.room r).st = .idle
          ∧ (¬ s.working (.room r) → (t.room r).known = (s.room r).known ∧ (t.room r).endPos = (s.room r).endPos)
          ∧ (s.working (.room r) → (t.room r).known = false ∧ (t.room r).endPos = .unknown))
      ∧ t.jk.st = .idle (if t.allRetracted then .retracted else .down) ∧ t.jk.plan = none ∧ t.jk.result = none
      ∧ (∀ g, t.sa.records.get g = none ∧ t.sa.groups.get g = false ∧ t.guard.freeze.get g = false)
      ∧ t.sa.supervision = true ∧ t.sa.causes = { SupCauses.none with reset := true }
      ∧ t.guard.jackWork = false ∧ t.guard.anyRoomWork = false ∧ (∀ c, t.health.get c = Health.initial)
      ∧ t.link.queue = [] ∧ t.link.slot = none
      ∧ t.link.tx = some { kind := 0x7F, tag := 0, payload := [0x40, 0x01], after := .nothing }
      ∧ (s.straps.awning = false ∨ x.stowed = true ∨ (raw.ignition = false ∧ raw.parkSet = true) →
          t.aw.st = .idle ∧ t.arb.grants = [] ∧ ∀ c, (t.chan c).mode = .off)

/-! ## Sensors -/

/-- SAMPLE_INTERVAL: the tilt ring, the jack pairs, the battery, the switches and counts of an idle room and of an
awning at rest, the change of a switch that the order names told with them, and the four voltage measurements, as one
set leaves them (R3 to R5, R7 to R11, R13, R99 to R102); the interval starts again. The model's own choices in it:
notes 2, 3, 4, 5. -/
def Obligations.SampleSetTaken : Prop :=
  ∀ (s : State) (x : SampleSet) (order : List Consumer), s.power = .awake →
    let mean := fun (sum : Int) =>
      max (-2000) (min 2000 (if 0 ≤ sum then (sum + 8) / 16 else -((8 - sum) / 16)))
    let cal := s.store.active.tiltCal
    let sampled := fun (told : Consumer) (c : Contact) (raw : Bool) =>
      if raw = c.made then { made := c.made, run := 0 }
      else if told ∈ order ∧ 1 ≤ c.run then { made := raw, run := 0 }
      else ({ made := c.made, run := min 2 (c.run + 1) } : Contact)
    let handed := fun (told : Consumer) (n : Count) (c : Contact) (raw : Bool) =>
      if c.made = false ∧ raw = true ∧ (c.run = 1 ∨ told ∈ order ∧ 1 ≤ c.run) then Count.zero
      else { live := n.live, handed := n.live }
    let volts := fun (v : Int) => if s.straps.supply24 then 2 * v else v
    ∃ t, exec (.sampleInterval x order) s = .next t
      ∧ t.clock = { sample := 20, input := s.clock.input - s.clock.sample, reading := s.clock.reading - s.clock.sample
                    wind := s.clock.wind - s.clock.sample }
      ∧ (∀ p, x.tilt = some p → |p.1| ≤ 2500 → |p.2| ≤ 2500 →
          let ring := s.fe.ring ++ [(p.1 - cal.pitch, p.2 - cal.roll)]
          t.fe.ring = ring.drop (ring.length - 16)
            ∧ (t.fe.ring.length = 16 → t.fe.pitch = mean (t.fe.ring.map (·.1)).sum
                ∧ t.fe.roll = mean (t.fe.ring.map (·.2)).sum)
            ∧ (t.fe.ring.length ≠ 16 → t.fe.pitch = s.fe.pitch ∧ t.fe.roll = s.fe.roll))
      ∧ ((x.tilt = none ∨ ∃ p, x.tilt = some p ∧ (2500 < |p.1| ∨ 2500 < |p.2|)) →
          t.fe.ring = [] ∧ t.fe.pitch = s.fe.pitch ∧ t.fe.roll = s.fe.roll)
      ∧ (∀ j, s.straps.hasJack j = true →
          (∀ a b, x.jacks.get j = { stroke := some a, pressure := some b } → -20 ≤ a → a ≤ 620 → -10 ≤ b → b ≤ 270 →
            let pair := (max 0 (min 600 a), max 0 (min 250 b))
            t.jackSense j =
              if (s.jackSense j).fault then
                { s.jackSense j with validRun := min 5 ((s.jackSense j).validRun + 1), latest := pair }
              else { s.jackSense j with stroke := some pair.1, pressure := some pair.2 })
          ∧ (((x.jacks.get j).stroke = none ∨ (x.jacks.get j).pressure = none
              ∨ (∃ a, (x.jacks.get j).stroke = some a ∧ (a < -20 ∨ 620 < a))
              ∨ (∃ b, (x.jacks.get j).pressure = some b ∧ (b < -10 ∨ 270 < b))) →
            t.jackSense j = { s.jackSense j with fault := true, validRun := 0 }))
      ∧ (∀ v, x.battery = some v → t.fe.battery = max 0 (min 6500 v) ∧ t.fe.missing = 0)
      ∧ (x.battery = none → t.fe.battery = (if 25 ≤ s.fe.missing then 0 else s.fe.battery)
          ∧ t.fe.missing = min 26 (s.fe.missing + 1))
      ∧ (∀ r, s.straps.hasRoom r = true → (s.room r).st = .idle →
          (∀ d, let raw := (match d with | .fore => (x.rooms.get r).foreIn | .aft => (x.rooms.get r).aftIn)
            (t.sense r).inStop d = sampled (.inStop r d) ((s.sense r).inStop d) raw
              ∧ (t.sense r).count d = handed (.inStop r d) ((s.sense r).count d) ((s.sense r).inStop d) raw)
          ∧ (t.sense r).withdrawn = sampled (.pin r) (s.sense r).withdrawn (x.rooms.get r).withdrawn
          ∧ (t.sense r).engaged = sampled (.pin r) (s.sense r).engaged (x.rooms.get r).engaged)
      ∧ (s.straps.awning = true → s.aw.st = .idle → s.driven .awning = false →
          t.fe.stowed = sampled .stowedSwitch s.fe.stowed x.stowed
            ∧ t.fe.awningCount = handed .stowedSwitch s.fe.awningCount s.fe.stowed x.stowed)
      ∧ t.arb.base = s.arb.base ∧ t.arb.level = s.arb.level ∧ t.arb.lowVoltage = s.arb.lowVoltage
      ∧ t.arb.recRun = (if volts 1220 ≤ t.fe.battery then s.arb.recRun + 1 else 0)
      ∧ t.arb.entRun = (if t.fe.battery < volts 1050 ∧ s.arb.lowVoltage = false then s.arb.entRun + 1 else 0)
      ∧ t.arb.exitRun = (if volts 1180 ≤ t.fe.battery ∧ s.arb.lowVoltage = true then s.arb.exitRun + 1 else 0)
      ∧ ((∀ g, s.working g → t.working g) → t.arb.grants = s.arb.grants ∧ t.arb.waiting = s.arb.waiting
          ∧ t.arb.sagRun = (if t.fe.battery < volts 1140 ∧ s.arb.grants ≠ [] then s.arb.sagRun + 1 else 0))
      ∧ t.inputs = s.inputs ∧ t.wind = s.wind ∧ t.health = s.health ∧ t.straps = s.straps
      ∧ t.link.queue = s.link.queue

/-- A jack leaves sensor fault with its fifth valid pair, and the idle state follows the strokes; encoder steps and
pulses are counted within their bounds (R8, R9, R14, R21). The model's own choices in it: notes 3, 25. -/
def Obligations.SensorEventsCounted : Prop :=
  ∀ (s : State), s.power = .awake →
    (∀ j, s.straps.hasJack j = true → (s.jackSense j).fault = true → 5 ≤ (s.jackSense j).validRun →
      let q := s.jackSense j
      ∃ t, exec (.jackSensorFaultClear j) s = .next t
        ∧ t.jackSense j = { q with fault := false, validRun := 0, stroke := some q.latest.1, pressure := some q.latest.2 }
        ∧ (∀ i, i ≠ j → t.jackSense i = s.jackSense i)
        ∧ (s.jk.st = .idle .down ∨ s.jk.st = .idle .retracted →
            t.jk.st = .idle (if t.allRetracted then .retracted else .down)))
    ∧ (∀ r d outward, s.straps.hasRoom r = true →
        let c := (s.sense r).count d
        let n := max (-200) (min 4000 (if outward then c.live + 1 else c.live - 1))
        exec (.encoderStep (.drive r d) outward) s =
          .next (s.setSense r ((s.sense r).setCount d { live := n, handed := c.handed })).kick)
    ∧ (∀ outward, s.straps.awning = true →
        let c := s.fe.awningCount
        let n := max (-200) (min 4000 (if outward then c.live + 1 else c.live - 1))
        exec (.encoderStep .awning outward) s =
            .next ({ s with fe := { s.fe with awningCount := { live := n, handed := c.handed } } } : State).kick
          ∧ exec .anemometerPulse s = .next ({ s with fe := { s.fe with pulses := s.fe.pulses + 1 } } : State).kick)

/-- A debounced in-stop, pin or stowed switch of an idle room or awning: MADE zeroes its count, and an opened switch
leaves the end position IN (R10, R11, R52, R81, R95). The model's own choices in it: notes 3, 28. -/
def Obligations.SwitchesFollowedAtRest : Prop :=
  ∀ (s : State) (made : Bool), s.power = .awake →
    (∀ r d, s.straps.hasRoom r = true → (s.room r).st = .idle → ((s.sense r).inStop d).made = !made →
      2 ≤ ((s.sense r).inStop d).run →
      ∃ t, exec (.inStopChange r d made) s = .next t ∧ (t.sense r).inStop d = { made := made, run := 0 }
        ∧ (t.sense r).count d = (if made then .zero else (s.sense r).count d)
        ∧ (t.sense r).count d.other = (s.sense r).count d.other ∧ (t.room r).known = (s.room r).known
        ∧ (t.room r).endPos = (if made = false ∧ (s.room r).endPos = .inn then .unknown else (s.room r).endPos)
        ∧ (∀ q, q ≠ r → t.sense q = s.sense q ∧ t.room q = s.room q) ∧ t.arb = s.arb ∧ t.ch = s.ch ∧ t.jk = s.jk
        ∧ t.aw = s.aw ∧ t.guard = s.guard ∧ t.framed = s.framed)
    ∧ (∀ r p, s.straps.hasRoom r = true → (s.room r).st = .idle → (s.sense r).pinChanges p = true →
      ∃ t, exec (.pinStateChange r p) s = .next t ∧ (t.sense r).pin = p ∧ (t.sense r).fore = (s.sense r).fore
        ∧ (t.sense r).aft = (s.sense r).aft ∧ t.rooms = s.rooms ∧ t.arb = s.arb ∧ t.ch = s.ch ∧ t.jk = s.jk
        ∧ t.aw = s.aw ∧ t.guard = s.guard ∧ t.framed = s.framed)
    ∧ (s.straps.awning = true → s.aw.st = .idle → s.driven .awning = false → s.fe.stowed.made = !made →
      2 ≤ s.fe.stowed.run →
      ∃ t, exec (.stowedSwitchChange made) s = .next t ∧ t.fe.stowed = { made := made, run := 0 }
        ∧ t.fe.awningCount = (if made then .zero else s.fe.awningCount) ∧ t.aw.known = s.aw.known
        ∧ t.aw.pendingStow = (if made then none else s.aw.pendingStow)
        ∧ t.aw.endPos = (if made = false ∧ s.aw.endPos = .inn then .unknown else s.aw.endPos)
        ∧ t.rooms = s.rooms ∧ t.arb = s.arb ∧ t.ch = s.ch ∧ t.jk = s.jk ∧ t.guard = s.guard)

/-- A room in motion at its switches: a withdrawn pin starts the drives; a made in-stop of a MOVE IN or a HOME zeroes
its count and stops its drive, while the other runs on, and the last one takes the room to SETTLING, unless the lead
of a MOVE has reached the fault limit; an engaged pin is the arrival (R11, R58 to R60, R65, R67, R75, R78). A made
stowed switch ends an awning MOVE IN, Home or stow (R85, R89, R94). The model's own choices in it: notes 3, 28. -/
def Obligations.SwitchesEndTravel : Prop :=
  ∀ (s : State) (r : RoomId), s.power = .awake →
    (s.straps.hasRoom r = true →
      ((s.room r).st = .work .preparing → (s.sense r).pinChanges .withdrawn = true → (s.room r).home = false →
        (s.room r).target = .out → (s.room r).foreStopped = false → (s.room r).aftStopped = false →
        s.lead r < (s.room r).cap.run.faultLimit →
        ∃ t, exec (.pinStateChange r .withdrawn) s = .next t ∧ (t.room r).st = .work .moving
          ∧ (t.room r).pinLeft = none ∧ (t.room r).ctrlLeft = some 50 ∧ (t.room r).endPos = .unknown
          ∧ t.driven (.pin r) = false
          ∧ (t.chan (.drive r .fore)).mode = .driven .first (s.room r).cap.run.extendDuty
          ∧ (t.chan (.drive r .aft)).mode = .driven .first (s.room r).cap.run.extendDuty ∧ t.arb = s.arb)
      ∧ ((s.room r).st = .work .settling → (s.sense r).pinChanges .engaged = true →
        ∃ t, exec (.pinStateChange r .engaged) s = .next t ∧ t.endedWith (.room r) .arrived ∧ t.groupOff (.room r)
          ∧ (t.room r).known = true ∧ (t.room r).endPos = .inn
          ∧ ((s.room r).home = true → (t.sense r).fore = .zero ∧ (t.sense r).aft = .zero))
      ∧ (∀ d, (s.room r).st = .work .moving → (s.room r).target = .inn → s.driven (.drive r d) = true →
        ((s.sense r).inStop d).made = false → 2 ≤ ((s.sense r).inStop d).run →
        let run := (s.room r).cap.run
        let other := ((s.sense r).count d.other).handed
        let met := fun (t : State) => (t.sense r).count d = .zero ∧ ((t.sense r).inStop d).made = true
          ∧ t.driven (.drive r d) = false ∧ (t.sense r).count d.other = (s.sense r).count d.other
        ((s.room r).home = true ∨ |other| < run.faultLimit →
          (∀ m, (s.chan (.drive r d.other)).mode = .driven .second m →
            ∃ t, exec (.inStopChange r d true) s = .next t ∧ met t ∧ (t.room r).st = .work .moving
              ∧ (t.chan (.drive r d.other)).mode = .driven .second (if (s.room r).home then 50 else run.retractDuty)
              ∧ (t.room r).stopped d = true ∧ t.arb = s.arb)
          ∧ (s.driven (.drive r d.other) = false → ((s.sense r).inStop d.other).reads = true →
            ∃ t, exec (.inStopChange r d true) s = .next t ∧ met t ∧ (t.room r).st = .work .settling
              ∧ t.driven (.drive r d.other) = false ∧ (t.chan (.pin r)).mode = .driven .second 100
              ∧ (t.room r).pinLeft = some 1500 ∧ (t.room r).ctrlLeft = none ∧ (t.room r).holdLeft = none
              ∧ t.arb = s.arb))
        ∧ ((s.room r).home = false → run.faultLimit ≤ |other| →
            ∃ t, exec (.inStopChange r d true) s = .next t ∧ t.endedWith (.room r) .syncFault ∧ t.groupOff (.room r)
              ∧ (t.room r).known = false ∧ (t.room r).endPos = .unknown)))
    ∧ (s.straps.awning = true → s.fe.stowed.made = false → 2 ≤ s.fe.stowed.run → s.driven .awning = true →
        s.working .awning → (s.aw.target = .inn ∨ s.aw.op = .stow) →
        ∃ t, exec (.stowedSwitchChange true) s = .next t ∧ t.endedWith .awning .arrived ∧ t.groupOff .awning
          ∧ t.fe.awningCount = .zero ∧ t.stowed = true ∧ t.aw.known = true ∧ t.aw.endPos = .inn)

/-! ## Chassis inputs -/

/-- INPUT_INTERVAL counts the samples that differ, and each of the changes that completes sets its input, with the
latch of R16, awake or dormant (R15, R16, R182). The model's own choices in it: notes 2, 3, 24. -/
def Obligations.InputsDebounced : Prop :=
  ∀ (s : State) (raw : RawInputs) (x : SampleSet), s.power ≠ .off →
    let sampled := fun (l : InputLine) (b : Bool) => { l with run := if b = l.level then 0 else min 5 (l.run + 1) }
    let high := fun (l : InputLine) => ({ level := !l.level, latch := l.latch || !l.level, run := 0 } : InputLine)
    let low := fun (l : InputLine) => ({ level := !l.level, latch := l.latch && !l.level, run := 0 } : InputLine)
    let i := s.inputs
    (∃ t, exec (.inputInterval raw) s = .next t
      ∧ t.inputs = { parkSet := sampled i.parkSet raw.parkSet, ignition := sampled i.ignition raw.ignition
                     engine := sampled i.engine raw.engine, charging := sampled i.charging raw.charging
                     airDumped := sampled i.airDumped raw.airDumped, keyOff := sampled i.keyOff raw.keyOff }
      ∧ t.clock = { sample := s.clock.sample - s.clock.input, input := 10
                    reading := s.clock.reading - s.clock.input, wind := s.clock.wind - s.clock.input }
      ∧ t.arb = s.arb ∧ t.ch = s.ch ∧ t.fe = s.fe ∧ t.guard = s.guard ∧ t.power = s.power)
    ∧ (i.parkSet.level = false → 5 ≤ i.parkSet.run →
        exec .parkBrakeSet s = .next ({ s with inputs := { i with parkSet := low i.parkSet } } : State).kick)
    ∧ (i.parkSet.level = true → 5 ≤ i.parkSet.run → ∃ t, exec .parkBrakeReleased s = .next t
        ∧ t.inputs = { i with parkSet := low i.parkSet })
    ∧ (i.ignition.level = false → 5 ≤ i.ignition.run → ∃ t, exec (.ignitionOn x) s = .next t
        ∧ t.inputs = { i with ignition := high i.ignition })
    ∧ (i.ignition.level = true → 5 ≤ i.ignition.run → ∃ t, exec .ignitionOff s = .next t
        ∧ t.inputs = { i with ignition := high i.ignition })
    ∧ (5 ≤ i.engine.run → ∃ t, exec (.engineOrChargingChange false) s = .next t
        ∧ t.inputs = { i with engine := high i.engine })
    ∧ (5 ≤ i.charging.run → ∃ t, exec (.engineOrChargingChange true) s = .next t
        ∧ t.inputs = { i with charging := high i.charging })
    ∧ (5 ≤ i.airDumped.run → ∃ t, exec .airDumpedChange s = .next t
        ∧ t.inputs = { i with airDumped := high i.airDumped })
    ∧ (i.keyOff.level = true → 5 ≤ i.keyOff.run → ∃ t, exec .lockoutKeyOn s = .next t
        ∧ t.inputs = { i with keyOff := low i.keyOff })
    ∧ (i.keyOff.level = false → 5 ≤ i.keyOff.run → ∃ t, exec .lockoutKeyOff s = .next t
        ∧ t.inputs = { i with keyOff := low i.keyOff })

/-- A chassis input that takes a permit away ends the operations that need it: the brake every one but an awning
retraction, and of these one that is driven outward, ignition off JACKS, ignition on an awning extension, the key all
of them, a lost air dump a run past AIR_DUMP (R25, R93, R95, R119, R120). The model's own choices in it: notes 3, 8,
11. -/
def Obligations.LostPermitsEndOperations : Prop :=
  ∀ (s : State) (x : SampleSet), s.power = .awake →
    let only := fun (t : State) => { t.framed with inputs := s.inputs } = s.framed
    (s.inputs.parkSet.level = true → 5 ≤ s.inputs.parkSet.run →
      ∃ t, exec .parkBrakeReleased s = .next t ∧ only t
        ∧ (∀ g, g ≠ .awning → s.straps.hasGroup g = true → s.working g → t.endedWith g .interlock ∧ t.groupOff g)
        ∧ (s.straps.awning = true → s.aw.moving = true → s.aw.extend = true ∨ s.drivenOut .awning = true →
            s.aw.op ≠ .stow → t.drivenOut .awning = false
              ∧ ∃ e, t.sa.records.awning = some e ∧ e.reason = .interlock ∧ e.op = s.aw.op.operation)
        ∧ (s.aw.stowing = true → s.waits .awning = false → t.aw = s.aw))
    ∧ (s.inputs.ignition.level = true → 5 ≤ s.inputs.ignition.run →
      ∃ t, exec .ignitionOff s = .next t ∧ only t
        ∧ (s.working .jacks → t.endedWith .jacks .interlock ∧ t.groupOff .jacks)
        ∧ (s.arb.waiting = [] → t.rooms = s.rooms ∧ t.aw = s.aw ∧ ∀ c, c.owner ≠ .jacks → t.chan c = s.chan c)
        ∧ (¬ s.working .jacks → t.arb = s.arb ∧ t.ch = s.ch ∧ t.jk = s.jk ∧ t.rooms = s.rooms ∧ t.aw = s.aw))
    ∧ (s.inputs.ignition.level = false → 5 ≤ s.inputs.ignition.run →
      ∃ t, exec (.ignitionOn x) s = .next t
        ∧ (s.awningExtending = true → s.aw.op ≠ .stow →
            ∃ e, t.sa.records.awning = some e ∧ e.reason = .interlock ∧ e.op = s.aw.op.operation)
        ∧ (s.straps.awning = false → s.awningExtending = false → t.arb = s.arb ∧ t.ch = s.ch ∧ t.jk = s.jk
            ∧ t.rooms = s.rooms ∧ t.aw = s.aw))
    ∧ (s.inputs.keyOff.level = true → 5 ≤ s.inputs.keyOff.run →
      ∃ t, exec .lockoutKeyOn s = .next t ∧ only t
        ∧ (∀ g, s.straps.hasGroup g = true → s.working g → (g = .awning → s.aw.stowing = true → s.waits .awning = false) →
            t.endedWith g .interlock ∧ t.groupOff g)
        ∧ (s.aw.stowing = true → s.waits .awning = false → t.aw.pendingStow = s.aw.stowCause))
    ∧ (s.inputs.airDumped.level = true → 5 ≤ s.inputs.airDumped.run → s.straps.airsusp = true →
      ∃ t, exec .airDumpedChange s = .next t ∧ only t
        ∧ (s.needsDumped = true → t.endedWith .jacks .airNotDumped ∧ t.groupOff .jacks)
        ∧ (s.needsDumped = false → t.arb = s.arb ∧ t.ch = s.ch ∧ t.jk = s.jk ∧ t.rooms = s.rooms ∧ t.aw = s.aw))
    ∧ (s.inputs.airDumped.level = false → 5 ≤ s.inputs.airDumped.run → s.straps.airsusp = true →
        s.jk.st = .work (.levelling .airDump) → s.fits s.jk.cap.draw →
      ∃ t, exec .airDumpedChange s = .next t ∧ t.jk.st = .work (.levelling .touchdown) ∧ t.jk.airLeft = none
        ∧ t.jk.cap = s.jk.cap ∧ t.ch = s.ch
        ∧ t.arb.grants = s.arb.grants ++ [{ holder := .jacks, cls := .levelling, draw := s.jk.cap.draw }])

/-- LOCKOUT_KEY_OFF takes up a pending stow: it begins with its cause, its grant and channel 19 retracting at 100 %,
or goes when the awning is stowed already; with none pending only the input changes (R94, R95, R109). The model's own
choices in it: notes 3. -/
def Obligations.KeyOffTakesUpTheStow : Prop :=
  ∀ (s : State), s.power = .awake → s.inputs.keyOff.level = false → 5 ≤ s.inputs.keyOff.run →
    let line : InputLine := { level := true, latch := s.inputs.keyOff.latch, run := 0 }
    let u : State := { s with inputs := { s.inputs with keyOff := line } }
    (s.aw.pendingStow = none → exec .lockoutKeyOff s = .next u.kick)
    ∧ (s.aw.pendingStow ≠ none → s.aw.st = .idle → s.frozen .awning = false → s.usable .awning = true →
        s.stowed = true →
        exec .lockoutKeyOff s = .next ({ u with aw := { s.aw with pendingStow := none } } : State).kick)
    ∧ (∀ c, s.aw.pendingStow = some c → s.aw.st = .idle → s.frozen .awning = false → s.usable .awning = true →
        s.stowed = false → s.atRest .awning →
        ∃ t, exec .lockoutKeyOff s = .next t ∧ t.aw.st = .work .stowing ∧ t.aw.op = .stow ∧ t.aw.stowCause = some c
          ∧ t.aw.pendingStow = none ∧ t.aw.endPos = .unknown ∧ t.aw.runMs = 0 ∧ t.aw.cap = s.awningCapture
          ∧ (t.chan .awning).mode = .driven .second 100
          ∧ { holder := .awning, cls := .stow, draw := s.awningCapture.draw } ∈ t.arb.grants)
    ∧ (∀ c, s.aw.pendingStow = some c → (s.aw.st ≠ .idle ∨ s.frozen .awning = true ∨ s.usable .awning = false) →
        exec .lockoutKeyOff s = .next u.kick)

/-! ## The supply -/

/-- The base follows the engine and the charger, the level rises at a sag below 3 and falls at a recovery above 0;
grants within the budget stay, and a room whose draw no longer fits is suspended with its channels off. A rise of the
budget, and the release of a grant, walk the waiting list from its head: the entries that fit are granted in their
order, GRANTED to a room that waits and RESUME to one that was suspended, and the first that does not fit stops the
walk (R98 to R100, R107, R108, R110 to R112). The model's own choices in it: notes 3, 4, 8, 15, 24, 27. -/
def Obligations.BudgetFollowsTheSupply : Prop :=
  ∀ (s : State), s.power = .awake →
    let same := fun (t : State) => t.arb.grants = s.arb.grants ∧ t.arb.waiting = s.arb.waiting ∧ t.ch = s.ch
      ∧ t.rooms = s.rooms ∧ t.jk = s.jk ∧ t.aw = s.aw ∧ t.fe = s.fe ∧ t.guard = s.guard
    -- after `c` the grants of `left` stand within a budget of `b`, and the list has been walked
    let walks := fun (c : Instr) (left : List Grant) (b : Nat) =>
      ∀ (l rest : List Waiting), s.arb.waiting = l ++ rest → sumDraws left + (l.map (·.draw)).sum ≤ b →
        (∀ f more, rest = f :: more → b < sumDraws left + (l.map (·.draw)).sum + f.draw) →
        let first := fun (P : State → Prop) => ∃ t, exec c s = .next t ∧ t.arb.waiting = rest
          ∧ t.arb.grants = left ++ l.map (fun e => { holder := e.holder, cls := e.cls, draw := e.draw }) ∧ P t
        -- nothing fits, or rooms whose hold has lapsed keep their new grants unused
        ((∀ e ∈ l, e.before = true ∧ ∃ r w, e.holder = .room r ∧ (s.room r).st = .suspended w
            ∧ (s.room r).causes = { Causes.none with supply := true, holdLapse := true }) →
          first fun t => ∀ e ∈ l, ∀ r, e.holder = .room r → (t.room r).st = (s.room r).st
            ∧ (t.room r).causes = { Causes.none with holdLapse := true } ∧ ∀ d, t.chan (.drive r d) = s.chan (.drive r d))
        -- a waiting room withdraws its pin, and a suspended one drives again
        ∧ (∀ e r, l = [e] → e.holder = .room r →
          (e.before = false → (s.room r).st = .work .waitSupply → (s.room r).target ≠ .inn →
              (s.sense r).pin ≠ .withdrawn →
            first fun t => (t.room r).st = .work .preparing ∧ (t.room r).pinLeft = some 1500
              ∧ (t.chan (.pin r)).mode = .driven .first 100)
          ∧ (e.before = true → (s.room r).st = .suspended .moving →
              (s.room r).causes = { Causes.none with supply := true } → (s.room r).target = .out →
              (s.room r).home = false → (s.room r).foreStopped = false → (s.room r).aftStopped = false →
              s.lead r < (s.room r).cap.run.faultLimit →
            first fun t => (t.room r).st = .work .moving ∧ (t.room r).causes = .none
              ∧ (t.chan (.drive r .fore)).mode = .driven .first (s.room r).cap.run.extendDuty
              ∧ (t.chan (.drive r .aft)).mode = .driven .first (s.room r).cap.run.extendDuty))
    (∀ tag q, s.ready → s.straps.hasRoom q = true → s.working (.room q) → s.holds (.room q) = true →
      s.waits (.room q) = false →
      walks (.stop tag (byteNum (2 ^ (q.num + 1)))) (s.arb.grants.filter fun e => decide (e.holder ≠ .room q)) s.budget)
    ∧ (∀ charging, (if charging then 5 ≤ s.inputs.charging.run else 5 ≤ s.inputs.engine.run) →
      let engine := s.inputs.engine.level ^^ !charging
      let charger := s.inputs.charging.level ^^ charging
      let base := if engine || charger then 240 else 160
      ∃ t, exec (.engineOrChargingChange charging) s = .next t ∧ t.arb.base = base ∧ t.arb.level = s.arb.level
        ∧ (s.arb.waiting = [] → s.grantSum ≤ budgetOf base s.arb.level → same t)
        ∧ (s.budget < budgetOf base s.arb.level →
            walks (.engineOrChargingChange charging) s.arb.grants (budgetOf base s.arb.level)))
    ∧ (s.arb.grants ≠ [] → 26 ≤ s.arb.sagRun →
      ∃ t, exec .sagComplete s = .next t ∧ t.arb.base = s.arb.base ∧ t.framed = s.framed
        ∧ t.arb.level = (if s.arb.level < 3 then s.arb.level + 1 else s.arb.level)
        ∧ (s.arb.level < 3 → t.sa.supervision = true ∧ t.sa.causes.budgetDegraded = true)
        ∧ (s.arb.level < 3 → s.arb.waiting = [] → s.grantSum ≤ budgetOf s.arb.base (s.arb.level + 1) →
            same t ∧ t.arb.sagRun = 1)
        ∧ (3 ≤ s.arb.level → same t ∧ t.sa = s.sa ∧ t.arb.sagRun = 1)
        ∧ (∀ r d w, s.arb.level < 3 → s.arb.waiting = [] → s.arb.grants = [{ holder := .room r, cls := .room, draw := d }] →
            budgetOf s.arb.base (s.arb.level + 1) < d → (s.room r).st = .work w →
            t.arb.grants = [] ∧ t.arb.waiting = [{ holder := .room r, cls := .room, draw := d, before := true }]
              ∧ (t.room r).st = .suspended w ∧ (t.room r).causes = { (s.room r).causes with supply := true }
              ∧ (t.room r).runMs = (s.room r).runMs ∧ t.roomStill r ∧ t.arb.sagRun = 0))
    ∧ (251 ≤ s.arb.recRun →
      ∃ t, exec .recoveryComplete s = .next t ∧ t.arb.level = s.arb.level - 1 ∧ t.arb.base = s.arb.base
        ∧ t.arb.recRun = 1 ∧ t.framed = s.framed
        ∧ (s.arb.waiting = [] → s.grantSum ≤ budgetOf s.arb.base (s.arb.level - 1) → same t)
        ∧ (s.budget < budgetOf s.arb.base (s.arb.level - 1) →
            walks .recoveryComplete s.arb.grants (budgetOf s.arb.base (s.arb.level - 1))))

/-- LOW_VOLTAGE is entered with SUPERVISION and ends every operation but a stow and a test; leaving it changes nothing
else (R101, R102). The model's own choices in it: notes 3, 4, 8. -/
def Obligations.LowVoltageEndsOperations : Prop :=
  ∀ (s : State), s.power = .awake →
    (s.arb.lowVoltage = false → 51 ≤ s.arb.entRun →
      ∃ t, exec .lowVoltageEntry s = .next t ∧ t.arb.lowVoltage = true ∧ t.sa.supervision = true
        ∧ t.sa.causes.lowVoltage = true
        ∧ (∀ g, s.straps.hasGroup g = true → s.working g → (g = .awning → s.aw.moving = true) →
            t.endedWith g .lowVoltage ∧ t.groupOff g)
        ∧ (s.aw.stowing = true → s.waits .awning = false → t.aw = s.aw ∧ t.chan .awning = s.chan .awning)
        ∧ t.guard.freeze = s.guard.freeze ∧ t.framed = s.framed)
    ∧ (s.arb.lowVoltage = true → 251 ≤ s.arb.exitRun →
        exec .lowVoltageExit s = .next ({ s with arb := { s.arb with lowVoltage := false, exitRun := 0 } } : State).kick)

/-! ## Channels -/

/-- CHANNEL_READING_INTERVAL: each driven channel of a present owner takes its reading, and the trip, open and stall
measurements count the readings that meet their conditions; every other channel is left (R143 to R145, R61, R86). The
model's own choices in it: notes 2. -/
def Obligations.ReadingsCounted : Prop :=
  ∀ (s : State) (v : PerChannel Nat), s.power = .awake →
    let trip := fun (c : ChannelId) =>
      match c with | .pump => 250000 | .valve _ => 6000 | .drive _ _ => 60000 | .pin _ => 8000 | .awning => 25000
    let low := fun (c : ChannelId) => match c with | .valve _ => 50 | .pin _ => 50 | _ => 200
    let stalls := fun (c : ChannelId) (m : Nat) =>
      match c with
      | .drive r _ => decide ((s.room r).cap.cal.stall.toNat * 1000 ≤ m)
      | .awning => decide (12000 ≤ m)
      | _ => false
    ∃ t, exec (.channelReadingInterval v) s = .next t
      ∧ t.clock = { sample := s.clock.sample - s.clock.reading, input := s.clock.input - s.clock.reading, reading := 5
                    wind := s.clock.wind - s.clock.reading }
      ∧ (∀ c, let x := s.chan c
          let m := min 300000 (v.get c)
          (s.straps.hasChannel c = true → ∀ d n, x.mode = .driven d n →
            t.chan c =
              { mode := .driven d n, reading := m, tripRun := if trip c ≤ m then x.tripRun + 1 else 0
                openRun := if 40 ≤ n ∧ m < low c then x.openRun + 1 else 0
                stallRun := if stalls c m then x.stallRun + 1 else 0, peak := max x.peak m })
          ∧ ((s.straps.hasChannel c = false ∨ s.driven c = false) → t.chan c = x))
      ∧ t.fe = s.fe ∧ t.inputs = s.inputs ∧ t.arb = s.arb ∧ t.guard = s.guard ∧ t.sa = s.sa ∧ t.health = s.health

/-- A completed trip, open-circuit or stall measurement of a driven channel ends its owner's operation: CIRCUIT_FAULT
with the health result, OBSTRUCTION for a stall; a room drive that stalls at its out-stop stops, its partner goes on,
and the second one's stall is the arrival OUT, unless the lead has reached the fault limit (R60, R61, R63, R67, R86,
R144, R145). The model's own choices in it: notes 3, 4, 15, 34. -/
def Obligations.ChannelEventsAct : Prop :=
  ∀ (s : State) (c : ChannelId), s.power = .awake → s.driven c = true →
    let stops := fun (t : State) (reason : Reason) => t.endedWith c.owner reason ∧ t.groupOff c.owner
      ∧ { t.framed with health := s.health } = s.framed
      ∧ (s.arb.waiting = [] → ∀ d, d.owner ≠ c.owner → t.chan d = s.chan d)
    (s.working c.owner → 5 ≤ (s.chan c).tripRun →
      ∃ t, exec (.overcurrentTrip c) s = .next t ∧ stops t (.circuitFault c) ∧ t.usable c = false
        ∧ t.health = s.health.set c { s.health.get c with result := .short })
    ∧ (s.working c.owner → 61 ≤ (s.chan c).openRun →
      ∃ t, exec (.openCircuit c) s = .next t ∧ stops t (.circuitFault c) ∧ t.usable c = false
        ∧ t.health = s.health.set c { s.health.get c with result := .open })
    ∧ (∀ r d, c = .drive r d → (s.room r).st = .work .moving → 31 ≤ (s.chan c).stallRun →
      let count := ((s.sense r).count d).handed
      let cal := (s.room r).cap.cal
      let atStop := cal.travel - cal.endWindow ≤ count ∧ count ≤ cal.travel + cal.endWindow
      (¬ ((s.room r).target = .out ∧ atStop) →
        ∃ t, exec (.roomDriveStall r d) s = .next t ∧ stops t .obstruction ∧ (t.room r).known = (s.room r).known
          ∧ (t.room r).endPos = (s.room r).endPos)
      ∧ (∀ q n, (s.room r).target = .out → atStop → (s.room r).home = false →
          (s.chan (.drive r d.other)).mode = .driven q n → s.lead r < (s.room r).cap.run.faultLimit →
        ∃ t, exec (.roomDriveStall r d) s = .next t ∧ t.driven c = false ∧ (t.room r).st = .work .moving
          ∧ (t.room r).stopped d = true ∧ (t.room r).stopped d.other = (s.room r).stopped d.other
          ∧ (t.chan (.drive r d.other)).mode = .driven q ((s.room r).nominal q) ∧ t.arb = s.arb)
      ∧ ((s.room r).target = .out → atStop → (s.room r).home = false → s.driven (.drive r d.other) = false →
          (s.room r).stopped d.other = true → s.lead r < (s.room r).cap.run.faultLimit →
        ∃ t, exec (.roomDriveStall r d) s = .next t ∧ stops t .arrived ∧ (t.room r).known = true
          ∧ (t.room r).endPos = .out)
      ∧ ((s.room r).target = .out → atStop → (s.room r).home = false → (s.room r).cap.run.faultLimit ≤ s.lead r →
        ∃ t, exec (.roomDriveStall r d) s = .next t ∧ stops t .syncFault ∧ (t.room r).known = false
          ∧ (t.room r).endPos = .unknown))
    ∧ (c = .awning → s.working .awning → 31 ≤ (s.chan c).stallRun →
      ∃ t, exec .awningStall s = .next t ∧ stops t .obstruction ∧ t.aw.known = s.aw.known)

/-- The control interval of a MOVE whose drives run the same way: the leading drive at nominal, or with the lead above
the sync window less its correction and never below 40 %, the lagging one at nominal (R60). The model's own choices in
it: notes 2, 15. -/
def Obligations.ControlIntervalCorrects : Prop :=
  ∀ (s : State) (r : RoomId) (left : Nat) (dir : ChanDir) (df da : Int), s.power = .awake →
    (s.room r).st = .work .moving → (s.room r).ctrlLeft = some left → (s.room r).home = false →
    (s.chan (.drive r .fore)).mode = .driven dir df → (s.chan (.drive r .aft)).mode = .driven dir da →
    let run := (s.room r).cap.run
    let fore := (s.sense r).fore.handed
    let aft := (s.sense r).aft.handed
    let nominal := match dir with | .first => run.extendDuty | .second => run.retractDuty
    let slow := if |fore - aft| ≤ run.syncWindow then nominal
      else max 40 (nominal - run.correction * (|fore - aft| - run.syncWindow))
    let foreLeads := match dir with | .first => decide (aft ≤ fore) | .second => decide (fore ≤ aft)
    ∃ t, exec (.controlInterval r) s = .next t ∧ (t.room r).ctrlLeft = some 50 ∧ (t.room r).st = .work .moving
      ∧ (t.chan (.drive r .fore)).mode = .driven dir (if foreLeads then slow else nominal)
      ∧ (t.chan (.drive r .aft)).mode = .driven dir (if foreLeads then nominal else slow)
      ∧ (t.chan (.drive r .fore)).tripRun = (s.chan (.drive r .fore)).tripRun
      ∧ (∀ c, c ≠ .drive r .fore → c ≠ .drive r .aft → t.chan c = s.chan c)
      ∧ t.arb = s.arb ∧ t.guard = s.guard ∧ t.fe = s.fe ∧ t.clock = s.clock.after left

/-! ## Timers -/

/-- A hold timer that runs out suspends its room or jog with HOLD_LAPSE and starts the resume window; of a frozen one
it only marks the lapse (R49, R69). The model's own choices in it: notes 2. -/
def Obligations.HoldTimerLapses : Prop :=
  ∀ (s : State) (d : Nat), s.power = .awake →
    let others := fun (t : State) => t.arb = s.arb ∧ t.guard = s.guard ∧ t.fe = s.fe ∧ t.sa.records = s.sa.records
      ∧ t.clock = s.clock.after d
    (∀ r w, (s.room r).holdLeft = some d → ((s.room r).st = .work w ∨ (s.room r).st = .suspended w) →
      ∃ t, exec (.holdTimer (.room r)) s = .next t ∧ others t ∧ (t.room r).holdLeft = none
        ∧ (t.room r).known = (s.room r).known ∧ (t.room r).endPos = (s.room r).endPos
        ∧ ((s.room r).causes.freeze = false → (t.room r).st = .suspended w ∧ t.roomStill r ∧ (t.room r).lapsed = false
            ∧ (t.room r).causes = { (s.room r).causes with holdLapse := true }
            ∧ (t.room r).resumeLeft = some ((s.room r).cap.run.resumeWindow.toNat * 1000))
        ∧ ((s.room r).causes.freeze = true → (t.room r).st = (s.room r).st ∧ (t.room r).causes = (s.room r).causes
            ∧ (t.room r).lapsed = true ∧ t.ch = s.ch))
    ∧ (s.jk.holdLeft = some d → (s.jk.st = .work .jogging ∨ s.jk.st = .suspended .jogging) →
      ∃ t, exec (.holdTimer .jog) s = .next t ∧ others t ∧ t.jk.holdLeft = none
        ∧ (s.jk.causes.freeze = false → t.jk.st = .suspended .jogging ∧ t.groupOff .jacks ∧ t.jk.lapsed = false
            ∧ t.jk.causes = { s.jk.causes with holdLapse := true } ∧ t.jk.resumeLeft = some s.jk.cap.resumeWindow)
        ∧ (s.jk.causes.freeze = true → t.jk.st = s.jk.st ∧ t.jk.causes = s.jk.causes ∧ t.jk.lapsed = true
            ∧ t.ch = s.ch))

/-- The timers and budgets that end an operation when they run out, each with its reason, the group's channels off and
its grant gone (R25, R26, R36, R39, R48, R49, R58, R62, R70, R84, R86, R88). The model's own choices in it: notes 2.
-/
def Obligations.TimersEndOperations : Prop :=
  ∀ (s : State) (r : RoomId) (d : Nat), s.power = .awake →
    let ends := fun (c : Instr) (g : Group) (reason : Reason) =>
      s.working g → ∃ t, exec c s = .next t ∧ t.endedWith g reason ∧ t.groupOff g
        ∧ (s.arb.waiting = [] → ∀ d, d.owner ≠ g → t.chan d = s.chan d)
        ∧ t.inputs = s.inputs ∧ t.health = s.health ∧ t.wind = s.wind ∧ t.store.active = s.store.active
        ∧ (g ≠ .awning → g ≠ .jacks → t.guard.roomWork.get r = false) ∧ (g = .jacks → t.guard.jackWork = false)
    ((s.room r).resumeLeft = some d → ends (.resumeWindow (.room r)) (.room r) .holdExpired)
    ∧ (s.jk.resumeLeft = some d → ends (.resumeWindow .jog) .jacks .holdExpired)
    ∧ ((s.room r).pinLeft = some d → ends (.pinTimer r) (.room r) .pinFault)
    ∧ ((s.room r).st = .work .moving → ¬ s.roomStill r → s.driven (.pin r) = false →
        ends (.roomTimeBudget r) (.room r) .timeout)
    ∧ (s.driven .awning = true → ends .awningRunTime .awning .timeout)
    ∧ (s.aw.waitLeft = some d → s.aw.causes.freeze = false → ends .awningSupplyWaitBound .awning .supplyTimeout)
    ∧ (s.aw.suspLeft = some d → s.aw.causes.freeze = false → ends .awningSuspensionBound .awning .supplyTimeout)
    ∧ (s.jk.airLeft = some d → s.jk.causes.freeze = false → ends .airDumpWait .jacks .airNotDumped)
    ∧ (s.jk.waitLeft = some d → s.jk.causes.freeze = false → ends .supplyWaitBound .jacks .supplyTimeout)
    ∧ (s.jk.suspLeft = some d → s.jk.causes.freeze = false → ends .suspensionBound .jacks .supplyTimeout)
    ∧ (∀ w, s.jk.st = .work w → w ≠ .jogging → ends .runTimer .jacks .timeout)
    ∧ (∀ g, s.jk.st = .work .jogging → s.jk.jog = some g → s.driven (.valve g.jack) = true →
        ends .jogRunTimeBudget .jacks .timeout)

/-- The settle timer, the step settle and the drift timer read the filtered tilt when they run out, or wait for the
next tilt sample while the filter is not full: the next pass is planned, the run ends LEVELLED or LIMITED, the light
jack is stepped again or retracted, or the group has DRIFTED (R33, R35, R42, R44). The model's own choices in it:
notes 2. -/
def Obligations.TiltReadAtTheTimer : Prop :=
  ∀ (s : State) (d : Nat), s.power = .awake →
    let within := fun (band : Int) => |s.fe.pitch| ≤ band ∧ |s.fe.roll| ≤ band
    let band := s.jk.cap.level.band
    let full := s.fe.ring.length = 16
    (s.jk.settleLeft = some d → s.jk.st = .work (.levelling .settle) →
      ∃ t, exec .settleTimer s = .next t
        ∧ (¬ full → t.jk.settleLeft = none ∧ t.jk.tiltWait = true ∧ t.jk.st = s.jk.st ∧ t.arb = s.arb ∧ t.ch = s.ch)
        ∧ (full → within band → (∀ j ∈ s.presentJacks, s.isLight j = false) →
            t.endedWith .jacks .arrived ∧ t.groupOff .jacks ∧ t.jk.st = .idle .levelled
              ∧ ∃ x, t.jk.result = some x ∧ x.outcome = .levelled ∧ x.passes = s.jk.passes ∧ x.pitch = s.fe.pitch
                ∧ x.roll = s.fe.roll)
        ∧ (full → ¬ within band → s.jk.cap.level.maxPasses ≤ s.jk.passes →
            t.endedWith .jacks .limited ∧ t.groupOff .jacks ∧ t.jk.st = .idle .down
              ∧ ∃ x, t.jk.result = some x ∧ x.outcome = .limited ∧ x.abort = none)
        ∧ (full → ¬ within band → (s.jk.passes : Int) < s.jk.cap.level.maxPasses → 1 ≤ s.jk.passes →
            t.jk.passes = s.jk.passes + 1 ∧ t.jk.plan = some (s.computePlan (s.jk.passes + 1)) ∧ t.arb = s.arb
              ∧ (t.jk.st = .work (.levelling .drive) ∨ t.jk.st = .work (.levelling .settle))))
    ∧ (∀ p, s.jk.stepLeft = some d → s.jk.st = .work (.levelling .loadCheck) → s.jk.step = some p →
      ∃ t, exec .stepSettle s = .next t
        ∧ (¬ full → t.arb = s.arb ∧ t.jk.tiltWait = true ∧ t.jk.stepLeft = none ∧ t.jk.step = some p ∧ t.ch = s.ch)
        ∧ (full → ¬ within band → t.arb = s.arb ∧ t.jk.stepLeft = none
            ∧ t.jk.step = some { p with mode := .retracting }
            ∧ (t.chan (.valve p.jack)).mode = .driven .second 100 ∧ t.driven .pump = true)
        ∧ (full → within band → s.isLight p.jack = true → p.made < 5 → s.stepFits p.jack = true →
            t.jk.step = some { jack := p.jack, made := p.made, start := s.strokeD p.jack, mode := .lifting }
              ∧ (t.chan (.valve p.jack)).mode = .driven .first 100 ∧ t.driven .pump = true ∧ t.arb = s.arb))
    ∧ (s.jk.driftLeft = some d → s.jk.st = .idle .levelled →
      ∃ t, exec .driftTimer s = .next t ∧ t.jk.driftLeft = none ∧ t.arb = s.arb ∧ t.ch = s.ch
        ∧ t.sa.records = s.sa.records ∧ t.jk.result = s.jk.result
        ∧ (¬ full → t.jk.driftWait = true ∧ t.jk.st = .idle .levelled)
        ∧ (full → within (2 * band) → t.jk.driftWait = false ∧ t.jk.st = .idle .levelled)
        ∧ (full → ¬ within (2 * band) → t.jk.st = .idle .drifted ∧ t.sa.groups.jacks = true))

/-! ## Wind -/

/-- A wind window computes the gust and sustained; at a wind condition the lockout comes on with its captured time and
SUPERVISION joins; the wind stow of an awning that is out begins, ending a MOVE or Home with WIND, or becomes pending
under the key, the freeze set or a test, or gives its cause to the stow that runs; an extension still at its switch
ends with WIND when the lockout comes on; the lockout ends after its quiet windows (R90 to R92, R94, R95, R120). The
model's own choices in it: notes 2, 3, 20. -/
def Obligations.WindWatched : Prop :=
  ∀ (s : State), s.power = .awake →
    let run := s.store.active.awningRun
    let gust := max 0 (min 600 (s.fe.pulses * s.store.active.awningCal.pulseFactor))
    let speeds := s.wind.ring ++ [gust]
    let ring := speeds.drop (speeds.length - 12)
    let sustained : Option Int := if ring.length = 12 then some (ring.sum / 12) else none
    let blows := run.gustStow ≤ gust ∨ ∃ x, sustained = some x ∧ run.sustainedStow ≤ x
    (s.straps.awning = true →
      ∃ t, exec .windWindow s = .next t ∧ t.clock.wind = 250 ∧ t.fe.pulses = 0 ∧ t.wind.ring = ring
        ∧ t.wind.gust = gust ∧ t.wind.sustained = sustained
        ∧ (s.wind.lockout = false → blows → t.wind.lockout = true ∧ t.wind.quiet = 0
            ∧ t.wind.lockTime = run.lockoutTime.toNat)
        ∧ (s.wind.lockout = true → blows → t.wind.lockout = true ∧ t.wind.quiet = s.wind.quiet
            ∧ t.wind.lockTime = s.wind.lockTime)
        ∧ (blows → t.sa.supervision = true ∧ t.sa.causes.wind = true)
        ∧ (s.wind.lockout = false → ¬ blows → t.wind.lockout = false ∧ t.wind.quiet = s.wind.quiet
            ∧ t.wind.lockTime = s.wind.lockTime)
        ∧ (s.wind.lockout = true → ¬ blows → s.wind.quiet < s.wind.lockTime * 4 → t.wind.lockout = true
            ∧ t.wind.lockTime = s.wind.lockTime
            ∧ t.wind.quiet = (match sustained with
                | none => s.wind.quiet
                | some x => if x < run.release then s.wind.quiet + 1 else 0))
        ∧ (blows → (∀ u ∈ s.guard.watches, u.contents.enabled = false) →
          let held := s.inputs.keyOff.level = false ∨ s.frozen .awning = true
          let begins := s.inputs.keyOff.level = true ∧ s.frozen .awning = false ∧ s.usable .awning = true →
            t.aw.st = .work .stowing ∧ t.aw.stowCause = some .wind ∧ t.aw.pendingStow = none
              ∧ (t.chan .awning).mode = .driven .second 100
              ∧ { holder := .awning, cls := .stow, draw := s.awningCapture.draw } ∈ t.arb.grants
          let pends := held → t.aw.st = .idle ∧ t.aw.pendingStow = some .wind ∧ t.driven .awning = false
          let motorAsBefore := t.chan .awning = s.chan .awning
          (s.stowed = false →
            (s.aw.st = .idle → s.atRest .awning → begins ∧ (s.driven .awning = false → pends))
            ∧ (s.aw.moving = true → begins ∧ pends ∧ t.sa.groups.awning = true
                ∧ ∃ e, t.sa.records.get .awning = some e ∧ e.op = s.aw.op.operation ∧ e.reason = .wind)
            ∧ (s.aw.stowing = true → t.aw.st = s.aw.st ∧ t.aw.stowCause = some .wind
                ∧ t.aw.pendingStow = s.aw.pendingStow ∧ motorAsBefore ∧ t.arb = s.arb)
            ∧ (s.aw.st = .testing → t.aw.st = .testing ∧ t.aw.pendingStow = some .wind ∧ motorAsBefore
                ∧ t.arb = s.arb))
          ∧ (s.stowed = true → s.wind.lockout = false → s.aw.moving = true → s.aw.extend = true →
              t.endedWith .awning .wind ∧ t.groupOff .awning)))
    ∧ (s.wind.lockout = true → s.wind.lockTime * 4 ≤ s.wind.quiet →
        exec .windLockoutOff s = .next ({ s with wind := { s.wind with lockout := false } } : State).kick)

/-! ## The lift plan -/

/-- The plan of a pass: heights from the filtered tilt, rounded half away from zero; extensions from the highest
corner; the base given back before any jack is clamped; the targets, within their limits; the base lift that the run
records (R29, R30). -/
def Obligations.LiftPlanComputed : Prop :=
  ∀ (s : State) (k : Nat),
    let g := s.jk.cap.geometry
    let here := fun (i : JackId) => s.straps.hasJack i = true
    let t := fun (i : JackId) => (s.jk.touch.get i).getD 0
    let r := fun (i : JackId) => if k = 1 then t i else (s.stroke i).getD 0
    let m := fun (i : JackId) => min (g.liftLimit - (r i - t i)) (g.strokeMax - r i)
    let b := if k = 1 then s.jk.cap.level.baseLift else 0
    ∃ (z : JackId → Int) (Z D : Int),
      (∀ i, let n := g.x.get i * s.fe.pitch + g.y.get i * s.fe.roll
        2 * |n - 10000 * z i| ≤ 10000 ∧ (2 * |n - 10000 * z i| = 10000 → |n| < |10000 * z i|))
      ∧ (∀ i, here i → z i ≤ Z) ∧ (∃ i, here i ∧ z i = Z)
      ∧ 0 ≤ D ∧ (∀ i, here i → b + (Z - z i) - m i ≤ D) ∧ (D = 0 ∨ ∃ i, here i ∧ D = b + (Z - z i) - m i)
      ∧ (∀ i, here i →
          (s.computePlan k).target.get i = r i + (if D ≤ b then b - D else 0) + min (Z - z i) (m i)
            ∧ ((s.computePlan k).clamped.get i = true ↔ b < D ∧ m i < Z - z i))
      ∧ s.planBaseUsed k = (if D ≤ b then b - D else 0)
      ∧ (∀ i, here i → (s.computePlan k).target.get i ≤ t i + g.liftLimit
          ∧ (s.computePlan k).target.get i ≤ g.strokeMax)
      ∧ (0 ≤ g.liftLimit → 0 ≤ g.strokeMax → ∀ i, here i → 0 ≤ t i → 0 ≤ r i →
          0 ≤ (s.computePlan k).target.get i)

/-! ## The receivers of a sample set -/

/-- The block that takes a sample set first acts on its readings. A switch whose change the set completes and that is
told of first ends the travel before the watches and the envelope take the set: an engaged pin or a made stowed switch
is the arrival, and the last in-stop that is made takes the room to SETTLING, or a MOVE at the fault limit to its end.
The envelope ends a motion that an entry matches, with the lowest index; a room MOVE ends at an overrun, at a lead of
the fault limit, or where its counts say; an awning MOVE ends at an overrun or at its target (that a MOVE OUT driven
inward ends OUT at or below its target + 8 is the model's choice, DEDUCED, notes 11, since the table of R85 has no
such row; an overrun reads the switch as this set completes it, notes 3); the levelling engine ends at a sensor fault,
touches down or finds no ground, plans its first pass, closes the valves of a station, steps and retracts the light
jacks of its load check, stows and jogs (R4, R8, R10, R21, R27, R28, R32, R35, R46, R48, R60, R64 to R66, R85, R125,
R131). The model's own choices in it: notes 2, 3, 5, 11, 18, 31, 32, 38. -/
def Obligations.ReceiversActOnASet : Prop :=
  ∀ (s : State) (x : SampleSet) (order : List Consumer), s.power = .awake →
    let a := s.atSet x
    let first := fun (c : Consumer) (P : State → Prop) =>
      order.head? = some c → ∃ t, exec (.sampleInterval x order) s = .next t ∧ P t
    let ends := fun (t : State) (g : Group) (reason : Reason) => t.endedWith g reason ∧ t.groupOff g
    -- the envelope
    (∀ g k e, s.straps.hasGroup g = true → s.working g → s.arb.waiting = [] → s.guard.envelope[k]? = some e →
      let hits := fun (c : EnvContents) => c.enabled = true ∧ c.subject = g ∧ c.source.isPresent s.straps = true
        ∧ (∀ j, c.source = .stroke j → (a.jackSense j).fault = false)
        ∧ ((c.direction ≠ .retract ∧ ∃ m ∈ s.motionChannels g, (s.chan m).drivenDir = some .first)
            ∨ (c.direction ≠ .extend ∧ ∃ m ∈ s.motionChannels g, (s.chan m).drivenDir = some .second))
        ∧ a.condHolds c = true
      hits e.contents → (∀ j f, j < k → s.guard.envelope[j]? = some f → ¬ hits f.contents) →
      first .envelope fun t => ends t g (.envelope k))
    -- a room
    ∧ (∀ r, s.straps.hasRoom r = true → (s.room r).st = .work .moving → (s.room r).home = false →
      let cal := (s.room r).cap.cal
      let count := fun (d : Drive) => ((a.sense r).count d).handed
      let dir := fun (d : Drive) => (s.chan (.drive r d)).drivenDir
      let overruns := fun (d : Drive) =>
        (dir d = some .first ∧ cal.travel + cal.endWindow < count d)
          ∨ (dir d = some .second ∧ count d < -cal.endWindow ∧ ((a.sense r).inStop d).reads = false)
      let unsure := fun (t : State) => (t.room r).known = false ∧ (t.room r).endPos = .unknown
      (∀ d, overruns d → first (.room r) fun t => ends t (.room r) .sensorFault ∧ unsure t)
      ∧ ((∀ d, ¬ overruns d) → (∃ d, dir d ≠ none) →
        ((s.room r).cap.run.faultLimit ≤ |count .fore - count .aft| →
          first (.room r) fun t => ends t (.room r) .syncFault ∧ unsure t)
        ∧ (∀ n, (s.room r).target = .position n → |count .fore - count .aft| < (s.room r).cap.run.faultLimit →
          let met := fun (d : Drive) => (dir d = some .first → n ≤ count d) ∧ (dir d = some .second → count d ≤ n)
          ((∀ d, met d) → first (.room r) fun t =>
            if |count .fore - n| ≤ 4 ∧ |count .aft - n| ≤ 4 then
              ends t (.room r) .arrived ∧ (t.room r).known = true ∧ (t.room r).endPos = .position n
            else ends t (.room r) .syncFault ∧ unsure t)
          ∧ (∀ d q, dir d ≠ none → met d → dir d.other = some q → ¬ met d.other → s.waits (.room r) = false →
            s.guardQuiet → first (.room r) fun t => t.driven (.drive r d) = false ∧ (t.room r).stopped d = true
              ∧ (t.chan (.drive r d.other)).mode = .driven q ((s.room r).nominal q) ∧ (t.room r).st = .work .moving))))
    -- the awning
    ∧ (∀ q, s.straps.awning = true → s.working .awning → s.aw.op = .move → (s.chan .awning).drivenDir = some q →
      let count := a.fe.awningCount.handed
      let overruns := (q = .first ∧ s.aw.cap.cal.travel + 50 < count)
        ∨ (q = .second ∧ count < -50 ∧ a.stowed = false)
      (overruns → first .awning fun t => ends t .awning .sensorFault ∧ t.aw.known = false ∧ t.aw.endPos = .unknown)
      ∧ (∀ goal, ¬ overruns → s.aw.targetCount = some goal →
        (match q with | .first => goal - 8 ≤ count | .second => count ≤ goal + 8) →
        first .awning fun t => ends t .awning .arrived ∧ t.aw.known = s.aw.known
          ∧ t.aw.endPos = (match s.aw.target with | .out => .out | _ => .position goal)))
    -- a switch that changes
    ∧ (∀ r, s.straps.hasRoom r = true →
      ((s.room r).st = .work .settling → (a.sense r).pinChanges .engaged = true →
        first (.pin r) fun t => ends t (.room r) .arrived ∧ (t.room r).known = true
          ∧ ((∀ d, ((a.sense r).inStop d).changes false = false) → (t.room r).endPos = .inn))
      ∧ (∀ d, (s.room r).st = .work .moving → (s.room r).target = .inn → s.driven (.drive r d) = true →
        ((a.sense r).inStop d).changes true = true → (a.sense r).pin ≠ .engaged →
        let other := ((a.sense r).count d.other).handed
        ((s.room r).home = false → (s.room r).cap.run.faultLimit ≤ |other| →
          first (.inStop r d) fun t => ends t (.room r) .syncFault ∧ (t.room r).known = false
            ∧ (t.room r).endPos = .unknown)
        ∧ ((s.room r).home = true ∨ |other| < (s.room r).cap.run.faultLimit → s.driven (.drive r d.other) = false →
          ((a.sense r).inStop d.other).reads = true → s.waits (.room r) = false → s.guardQuiet →
          first (.inStop r d) fun t => (t.room r).st = .work .settling ∧ t.driven (.drive r d) = false
            ∧ (t.sense r).count d = .zero ∧ (t.room r).pinLeft = some 1500)))
    ∧ (s.straps.awning = true → s.driven .awning = true → s.working .awning → (s.aw.target = .inn ∨ s.aw.op = .stow) →
      a.fe.stowed.changes true = true →
      first .stowedSwitch fun t => ends t .awning .arrived ∧ t.aw.known = true ∧ t.aw.endPos = .inn)
    -- the levelling engine
    ∧ (let present := fun (j : JackId) => s.straps.hasJack j = true
      let tiltFault := a.fe.ring = []
      let jackFault := ∃ j, present j ∧ (s.jackSense j).fault = false ∧ (a.jackSense j).fault = true
      let goes := fun (j : JackId) => (s.chan (.valve j)).drivenDir
      let stroke := a.strokeD
      let touches := fun (j : JackId) => s.jk.cap.level.contact ≤ a.pressureD j
      let noGround := fun (j : JackId) => present j ∧ goes j ≠ none ∧ ¬ touches j ∧ s.jk.cap.geometry.strokeMax ≤ stroke j
      let inBand := fun (j : JackId) => (goes j = some .first → a.targetOf j - 2 ≤ stroke j)
        ∧ (goes j = some .second → stroke j ≤ a.targetOf j + 2)
      let aborted := fun (t : State) => ∃ w, t.jk.result = some w ∧ w.outcome = .aborted
      (s.jk.st.isLevelAuto = true → tiltFault → first .levelling fun t => ends t .jacks .sensorFault ∧ aborted t)
      ∧ (jackFault → first .levelling fun t => t.sa.groups.jacks = true ∧ (s.working .jacks → ends t .jacks .sensorFault))
      ∧ (s.jk.st = .idle .down ∨ s.jk.st = .idle .retracted → first .levelling fun t =>
          t.jk.st = .idle (if a.allRetracted then .retracted else .down))
      ∧ (¬ tiltFault → ¬ jackFault → s.holds .jacks = true → s.waits .jacks = false →
        (s.jk.st = .work (.levelling .touchdown) → s.jk.tdDone = false → s.jk.tdStarted = false → s.guardQuiet →
          first .levelling fun t => t.jk.st = s.jk.st ∧ t.jk.tdStarted = true
            ∧ ∀ j, present j →
              (touches j → t.jk.touch.get j = some (stroke j) ∧ t.chan (.valve j) = s.chan (.valve j))
                ∧ (¬ touches j → t.jk.touch.get j = s.jk.touch.get j ∧ t.driven .pump = true
                    ∧ (t.chan (.valve j)).mode = .driven .first 100))
        ∧ (s.jk.st = .work (.levelling .touchdown) → s.jk.tdDone = false → s.jk.tdStarted = true →
            (∀ j, s.jk.noGround.get j = false) →
          (∀ j, noGround j → first .levelling fun t => ends t .jacks .noGround
              ∧ ∃ w, t.jk.result = some w ∧ w.outcome = .aborted ∧ w.noGround.get j = true)
          ∧ ((∀ j, ¬ noGround j) → s.guardQuiet → first .levelling fun t => t.jk.st = s.jk.st
              ∧ ∀ j, present j → goes j ≠ none →
                (touches j → t.driven (.valve j) = false ∧ t.jk.touch.get j = some (stroke j))
                  ∧ (¬ touches j → t.chan (.valve j) = s.chan (.valve j))))
        ∧ (s.jk.st = .work (.levelling .touchdown) → s.jk.tdDone = true → a.fe.ring.length = 16 →
          let level := |a.fe.pitch| ≤ s.jk.cap.level.steepness ∧ |a.fe.roll| ≤ s.jk.cap.level.steepness
          (s.jk.steepDone = false → ¬ level → first .levelling fun t => ends t .jacks .tooSteep ∧ aborted t)
          ∧ ((s.jk.steepDone = true ∨ level) → s.guardQuiet → first .levelling fun t => t.jk.passes = 1
              ∧ t.jk.plan = some (a.computePlan 1) ∧ t.jk.baseUsed = a.planBaseUsed 1
              ∧ (t.jk.st = .work (.levelling .drive) ∨ t.jk.st = .work (.levelling .settle))))
        ∧ (∀ p, s.jk.st = .work (.levelling .drive) → s.jk.station = some p → s.guardQuiet →
          let mine := fun (j : JackId) => j ∈ stationJacks p ∧ present j ∧ goes j ≠ none
          ((∃ j, mine j ∧ ¬ inBand j) → first .levelling fun t => t.jk.st = s.jk.st ∧ t.jk.station = some p
            ∧ ∀ j, mine j → if inBand j then t.driven (.valve j) = false else t.chan (.valve j) = s.chan (.valve j))
          ∧ ((∀ j, mine j → inBand j) → first .levelling fun t => t.jk.doneStation p = true
            ∧ (∀ j, mine j → t.driven (.valve j) = false)
            ∧ ((∀ o, o ≠ p → s.jk.doneStation o = true ∨ ∀ j ∈ stationJacks o, ¬ present j) →
                t.jk.st = .work (.levelling .settle) ∧ t.jk.station = none
                  ∧ t.jk.settleLeft = some s.jk.cap.level.settleMs.toNat)))
        ∧ (∀ p, s.jk.st = .work (.levelling .loadCheck) → s.jk.step = some p →
          let valve := ChannelId.valve p.jack
          let within := |a.fe.pitch| ≤ s.jk.cap.level.band ∧ |a.fe.roll| ≤ s.jk.cap.level.band
          let steps := fun (t : State) (i : JackId) (made : Nat) =>
            t.jk.step = some { jack := i, made := made, start := stroke i, mode := .lifting }
              ∧ (t.chan (.valve i)).mode = .driven .first 100 ∧ t.driven .pump = true ∧ t.jk.st = s.jk.st
          let waits := s.guardQuiet → first .levelling fun t => t.jk.st = s.jk.st ∧ t.jk.step = some p
            ∧ t.chan valve = s.chan valve
          let stepped := ((∀ i ∈ s.jk.lightList, a.isLight i = false) → first .levelling fun t =>
              ends t .jacks .arrived ∧ t.jk.st = .idle .levelled
                ∧ ∃ w, t.jk.result = some w ∧ w.outcome = .levelled ∧ w.light.get p.jack = a.isLight p.jack)
            ∧ (∀ i rest, s.jk.lightList = i :: rest → a.isLight i = true → a.stepFits i = true → s.guardQuiet →
              first .levelling fun t => steps t i 0 ∧ t.jk.lightList = rest
                ∧ t.jk.light.get p.jack = a.isLight p.jack)
          (p.mode = .lifting →
            (stroke p.jack < p.start + 2 → waits)
            ∧ (p.start + 2 ≤ stroke p.jack → s.guardQuiet → first .levelling fun t => t.jk.st = s.jk.st
                ∧ t.jk.step = some { p with made := p.made + 1, mode := .settling } ∧ t.jk.stepLeft = some 500
                ∧ t.driven valve = false))
          ∧ (p.mode = .settling →
            (s.jk.tiltWait = false ∨ a.fe.ring.length ≠ 16 → waits)
            ∧ (s.jk.tiltWait = true → a.fe.ring.length = 16 →
              (¬ within → s.guardQuiet → first .levelling fun t => t.jk.st = s.jk.st
                ∧ t.jk.step = some { p with mode := .retracting } ∧ (t.chan valve).mode = .driven .second 100
                ∧ t.driven .pump = true)
              ∧ (within → a.isLight p.jack = true → p.made < 5 → a.stepFits p.jack = true → s.guardQuiet →
                first .levelling fun t => steps t p.jack p.made)
              ∧ (within → a.isLight p.jack = false ∨ 5 ≤ p.made ∨ a.stepFits p.jack = false → stepped)))
          ∧ (p.mode = .retracting →
            (p.start < stroke p.jack → waits) ∧ (stroke p.jack ≤ p.start → stepped)))
        ∧ (s.jk.st = .work .stowing →
          ((∀ j, present j → a.retracted j = true) → first .levelling fun t =>
            ends t .jacks .arrived ∧ t.jk.st = .idle .retracted ∧ t.jk.dumpReq = false)
          ∧ ((∃ j, present j ∧ a.retracted j = false) → s.guardQuiet → first .levelling fun t => t.jk.st = s.jk.st
            ∧ ∀ j, present j → goes j ≠ none →
              if a.retracted j = true then t.driven (.valve j) = false else t.chan (.valve j) = s.chan (.valve j))))
      ∧ (∀ g, s.jk.st = .work .jogging → s.jk.jog = some g → ¬ tiltFault → ¬ jackFault →
          (goes g.jack = some .first ∧ g.target - 2 ≤ stroke g.jack
            ∨ goes g.jack = some .second ∧ stroke g.jack ≤ g.target + 2) →
          first .levelling fun t => ends t .jacks .arrived))

/-! ## What every command keeps -/

/-- No command clears a lock cell, and only a power-on reads the straps (R1, R179). -/
def Obligations.LocksAndStrapsStay : Prop :=
  ∀ (c : Instr) (s t : State), exec c s = .next t →
    (∀ k, s.store.locks.getLsbD k = true → t.store.locks.getLsbD k = true)
      ∧ ((∀ pins raw x, c ≠ .powerOn pins raw x) → (∀ torn, c ≠ .powerLoss torn) → t.straps = s.straps)

/-- The tables keep their sizes, and the rings, the queue and the link counters their bounds (R5, R90, R123, R129,
R165, R166). -/
def Obligations.EveryStepKeepsTheShapes : Prop :=
  ∀ s t : State, s.tablesWhole → s.buffersBounded → step s = .next t → t.tablesWhole ∧ t.buffersBounded

/-- The draws granted never exceed the budget, whatever the step (R103, R109 to R111). -/
def Obligations.EveryStepKeepsTheBudget : Prop :=
  ∀ s t : State, s.supplyFits → step s = .next t → t.supplyFits

/-- JACKS and the rooms never work together: the claim stands over every operation and every driven channel (R121,
R142). -/
def Obligations.EveryStepKeepsTheClaim : Prop :=
  ∀ s t : State, s.claimSound → step s = .next t → t.claimSound

/-- While awake the stance record and the two dash lines follow the state (R154, R155). -/
def Obligations.EveryStepKeepsTheStance : Prop :=
  ∀ s t : State, s.stanceTrue → step s = .next t → t.stanceTrue

/-- The state after reset meets the invariants. The model's own choices in it: notes 7. -/
def Obligations.ResetMeetsTheInvariants : Prop :=
  State.reset.tablesWhole ∧ State.reset.buffersBounded ∧ State.reset.supplyFits ∧ State.reset.claimSound
    ∧ State.reset.stanceTrue ∧ State.reset.ready

end Statements
end

