-- ==== Sys2Proof/Laws/State.lean ====
section
/-!
SUPPORT. What each named update of the state leaves as it was, field by field, and the reading of the tables of jacks,
rooms, groups and channels after one of their entries is set.
-/

namespace Sys2Proof

/-! ## Tables -/

variable {α : Type}

@[simp] theorem PerJack.get_set_same (p : PerJack α) (j : JackId) (v : α) : (p.set j v).get j = v := by
  cases j <;> rfl

theorem PerJack.get_set_other (p : PerJack α) (j k : JackId) (v : α) (h : k ≠ j) : (p.set j v).get k = p.get k := by
  cases j <;> cases k <;> first | rfl | exact absurd rfl h

@[simp] theorem PerJack.get_tab (f : JackId → α) (j : JackId) : (PerJack.tab f).get j = f j := by cases j <;> rfl

@[simp] theorem PerJack.get_all (v : α) (j : JackId) : (PerJack.all v).get j = v := by cases j <;> rfl

@[simp] theorem PerRoom.get_set_same (p : PerRoom α) (r : RoomId) (v : α) : (p.set r v).get r = v := by
  cases r <;> rfl

theorem PerRoom.get_set_other (p : PerRoom α) (r q : RoomId) (v : α) (h : q ≠ r) : (p.set r v).get q = p.get q := by
  cases r <;> cases q <;> first | rfl | exact absurd rfl h

@[simp] theorem PerRoom.get_tab (f : RoomId → α) (r : RoomId) : (PerRoom.tab f).get r = f r := by cases r <;> rfl

@[simp] theorem PerRoom.get_all (v : α) (r : RoomId) : (PerRoom.all v).get r = v := by cases r <;> rfl

@[simp] theorem PerGroup.get_set_same (p : PerGroup α) (g : Group) (v : α) : (p.set g v).get g = v := by
  cases g <;> simp [PerGroup.get, PerGroup.set]

theorem PerGroup.get_set_other (p : PerGroup α) (g k : Group) (v : α) (h : k ≠ g) : (p.set g v).get k = p.get k := by
  cases g <;> cases k <;> simp_all [PerGroup.get, PerGroup.set, PerRoom.get_set_other]

@[simp] theorem PerGroup.get_tab (f : Group → α) (g : Group) : (PerGroup.tab f).get g = f g := by
  cases g <;> simp [PerGroup.get, PerGroup.tab]

@[simp] theorem PerGroup.get_all (v : α) (g : Group) : (PerGroup.all v).get g = v := by simp [PerGroup.all]

@[simp] theorem PerChannel.get_set_same (p : PerChannel α) (c : ChannelId) (v : α) : (p.set c v).get c = v := by
  rcases c with _ | j | ⟨r, _ | _⟩ | r | _ <;> simp [PerChannel.get, PerChannel.set]

theorem PerChannel.get_set_other (p : PerChannel α) (c k : ChannelId) (v : α) (h : k ≠ c) :
    (p.set c v).get k = p.get k := by
  rcases c with _ | j | ⟨r, _ | _⟩ | r | _ <;> rcases k with _ | i | ⟨q, _ | _⟩ | q | _ <;>
    simp_all [PerChannel.get, PerChannel.set, PerRoom.get_set_other, PerJack.get_set_other]

@[simp] theorem PerChannel.get_tab (f : ChannelId → α) (c : ChannelId) : (PerChannel.tab f).get c = f c := by
  rcases c with _ | j | ⟨r, _ | _⟩ | r | _ <;> simp [PerChannel.get, PerChannel.tab]

@[simp] theorem PerChannel.get_all (v : α) (c : ChannelId) : (PerChannel.all v).get c = v := by
  simp [PerChannel.all]

end Sys2Proof

namespace Sys2Proof.Machine

open Sys2Proof

variable (s : State)

/-! ## setRoom -/

@[simp] theorem State.setRoom_power (r : RoomId) (x : Room) : (s.setRoom r x).power = s.power := rfl
@[simp] theorem State.setRoom_straps (r : RoomId) (x : Room) : (s.setRoom r x).straps = s.straps := rfl
@[simp] theorem State.setRoom_clock (r : RoomId) (x : Room) : (s.setRoom r x).clock = s.clock := rfl
@[simp] theorem State.setRoom_fe (r : RoomId) (x : Room) : (s.setRoom r x).fe = s.fe := rfl
@[simp] theorem State.setRoom_inputs (r : RoomId) (x : Room) : (s.setRoom r x).inputs = s.inputs := rfl
@[simp] theorem State.setRoom_jk (r : RoomId) (x : Room) : (s.setRoom r x).jk = s.jk := rfl
@[simp] theorem State.setRoom_aw (r : RoomId) (x : Room) : (s.setRoom r x).aw = s.aw := rfl
@[simp] theorem State.setRoom_wind (r : RoomId) (x : Room) : (s.setRoom r x).wind = s.wind := rfl
@[simp] theorem State.setRoom_arb (r : RoomId) (x : Room) : (s.setRoom r x).arb = s.arb := rfl
@[simp] theorem State.setRoom_guard (r : RoomId) (x : Room) : (s.setRoom r x).guard = s.guard := rfl
@[simp] theorem State.setRoom_ch (r : RoomId) (x : Room) : (s.setRoom r x).ch = s.ch := rfl
@[simp] theorem State.setRoom_health (r : RoomId) (x : Room) : (s.setRoom r x).health = s.health := rfl
@[simp] theorem State.setRoom_test (r : RoomId) (x : Room) : (s.setRoom r x).test = s.test := rfl
@[simp] theorem State.setRoom_sa (r : RoomId) (x : Room) : (s.setRoom r x).sa = s.sa := rfl
@[simp] theorem State.setRoom_link (r : RoomId) (x : Room) : (s.setRoom r x).link = s.link := rfl
@[simp] theorem State.setRoom_store (r : RoomId) (x : Room) : (s.setRoom r x).store = s.store := rfl
@[simp] theorem State.setRoom_pending (r : RoomId) (x : Room) : (s.setRoom r x).pending = s.pending := rfl

/-! ## setChan -/

@[simp] theorem State.setChan_power (c : ChannelId) (x : Channel) : (s.setChan c x).power = s.power := rfl
@[simp] theorem State.setChan_straps (c : ChannelId) (x : Channel) : (s.setChan c x).straps = s.straps := rfl
@[simp] theorem State.setChan_clock (c : ChannelId) (x : Channel) : (s.setChan c x).clock = s.clock := rfl
@[simp] theorem State.setChan_fe (c : ChannelId) (x : Channel) : (s.setChan c x).fe = s.fe := rfl
@[simp] theorem State.setChan_inputs (c : ChannelId) (x : Channel) : (s.setChan c x).inputs = s.inputs := rfl
@[simp] theorem State.setChan_jk (c : ChannelId) (x : Channel) : (s.setChan c x).jk = s.jk := rfl
@[simp] theorem State.setChan_rooms (c : ChannelId) (x : Channel) : (s.setChan c x).rooms = s.rooms := rfl
@[simp] theorem State.setChan_aw (c : ChannelId) (x : Channel) : (s.setChan c x).aw = s.aw := rfl
@[simp] theorem State.setChan_wind (c : ChannelId) (x : Channel) : (s.setChan c x).wind = s.wind := rfl
@[simp] theorem State.setChan_arb (c : ChannelId) (x : Channel) : (s.setChan c x).arb = s.arb := rfl
@[simp] theorem State.setChan_guard (c : ChannelId) (x : Channel) : (s.setChan c x).guard = s.guard := rfl
@[simp] theorem State.setChan_health (c : ChannelId) (x : Channel) : (s.setChan c x).health = s.health := rfl
@[simp] theorem State.setChan_test (c : ChannelId) (x : Channel) : (s.setChan c x).test = s.test := rfl
@[simp] theorem State.setChan_sa (c : ChannelId) (x : Channel) : (s.setChan c x).sa = s.sa := rfl
@[simp] theorem State.setChan_link (c : ChannelId) (x : Channel) : (s.setChan c x).link = s.link := rfl
@[simp] theorem State.setChan_store (c : ChannelId) (x : Channel) : (s.setChan c x).store = s.store := rfl
@[simp] theorem State.setChan_pending (c : ChannelId) (x : Channel) : (s.setChan c x).pending = s.pending := rfl

/-! ## off -/

@[simp] theorem State.off_power (c : ChannelId) : (s.off c).power = s.power := rfl
@[simp] theorem State.off_straps (c : ChannelId) : (s.off c).straps = s.straps := rfl
@[simp] theorem State.off_clock (c : ChannelId) : (s.off c).clock = s.clock := rfl
@[simp] theorem State.off_fe (c : ChannelId) : (s.off c).fe = s.fe := rfl
@[simp] theorem State.off_inputs (c : ChannelId) : (s.off c).inputs = s.inputs := rfl
@[simp] theorem State.off_jk (c : ChannelId) : (s.off c).jk = s.jk := rfl
@[simp] theorem State.off_rooms (c : ChannelId) : (s.off c).rooms = s.rooms := rfl
@[simp] theorem State.off_aw (c : ChannelId) : (s.off c).aw = s.aw := rfl
@[simp] theorem State.off_wind (c : ChannelId) : (s.off c).wind = s.wind := rfl
@[simp] theorem State.off_arb (c : ChannelId) : (s.off c).arb = s.arb := rfl
@[simp] theorem State.off_guard (c : ChannelId) : (s.off c).guard = s.guard := rfl
@[simp] theorem State.off_health (c : ChannelId) : (s.off c).health = s.health := rfl
@[simp] theorem State.off_test (c : ChannelId) : (s.off c).test = s.test := rfl
@[simp] theorem State.off_sa (c : ChannelId) : (s.off c).sa = s.sa := rfl
@[simp] theorem State.off_link (c : ChannelId) : (s.off c).link = s.link := rfl
@[simp] theorem State.off_store (c : ChannelId) : (s.off c).store = s.store := rfl
@[simp] theorem State.off_pending (c : ChannelId) : (s.off c).pending = s.pending := rfl

/-! ## drive -/

@[simp] theorem State.drive_power (c : ChannelId) (d : ChanDir) (n : Int) : (s.drive c d n).power = s.power := rfl
@[simp] theorem State.drive_straps (c : ChannelId) (d : ChanDir) (n : Int) : (s.drive c d n).straps = s.straps := rfl
@[simp] theorem State.drive_clock (c : ChannelId) (d : ChanDir) (n : Int) : (s.drive c d n).clock = s.clock := rfl
@[simp] theorem State.drive_fe (c : ChannelId) (d : ChanDir) (n : Int) : (s.drive c d n).fe = s.fe := rfl
@[simp] theorem State.drive_inputs (c : ChannelId) (d : ChanDir) (n : Int) : (s.drive c d n).inputs = s.inputs := rfl
@[simp] theorem State.drive_jk (c : ChannelId) (d : ChanDir) (n : Int) : (s.drive c d n).jk = s.jk := rfl
@[simp] theorem State.drive_rooms (c : ChannelId) (d : ChanDir) (n : Int) : (s.drive c d n).rooms = s.rooms := rfl
@[simp] theorem State.drive_aw (c : ChannelId) (d : ChanDir) (n : Int) : (s.drive c d n).aw = s.aw := rfl
@[simp] theorem State.drive_wind (c : ChannelId) (d : ChanDir) (n : Int) : (s.drive c d n).wind = s.wind := rfl
@[simp] theorem State.drive_arb (c : ChannelId) (d : ChanDir) (n : Int) : (s.drive c d n).arb = s.arb := rfl
@[simp] theorem State.drive_guard (c : ChannelId) (d : ChanDir) (n : Int) : (s.drive c d n).guard = s.guard := rfl
@[simp] theorem State.drive_health (c : ChannelId) (d : ChanDir) (n : Int) : (s.drive c d n).health = s.health := rfl
@[simp] theorem State.drive_test (c : ChannelId) (d : ChanDir) (n : Int) : (s.drive c d n).test = s.test := rfl
@[simp] theorem State.drive_sa (c : ChannelId) (d : ChanDir) (n : Int) : (s.drive c d n).sa = s.sa := rfl
@[simp] theorem State.drive_link (c : ChannelId) (d : ChanDir) (n : Int) : (s.drive c d n).link = s.link := rfl
@[simp] theorem State.drive_store (c : ChannelId) (d : ChanDir) (n : Int) : (s.drive c d n).store = s.store := rfl
@[simp] theorem State.drive_pending (c : ChannelId) (d : ChanDir) (n : Int) : (s.drive c d n).pending = s.pending := rfl

/-! ## clearPeaks -/

@[simp] theorem State.clearPeaks_power (g : Group) : (s.clearPeaks g).power = s.power := rfl
@[simp] theorem State.clearPeaks_straps (g : Group) : (s.clearPeaks g).straps = s.straps := rfl
@[simp] theorem State.clearPeaks_clock (g : Group) : (s.clearPeaks g).clock = s.clock := rfl
@[simp] theorem State.clearPeaks_fe (g : Group) : (s.clearPeaks g).fe = s.fe := rfl
@[simp] theorem State.clearPeaks_inputs (g : Group) : (s.clearPeaks g).inputs = s.inputs := rfl
@[simp] theorem State.clearPeaks_jk (g : Group) : (s.clearPeaks g).jk = s.jk := rfl
@[simp] theorem State.clearPeaks_rooms (g : Group) : (s.clearPeaks g).rooms = s.rooms := rfl
@[simp] theorem State.clearPeaks_aw (g : Group) : (s.clearPeaks g).aw = s.aw := rfl
@[simp] theorem State.clearPeaks_wind (g : Group) : (s.clearPeaks g).wind = s.wind := rfl
@[simp] theorem State.clearPeaks_arb (g : Group) : (s.clearPeaks g).arb = s.arb := rfl
@[simp] theorem State.clearPeaks_guard (g : Group) : (s.clearPeaks g).guard = s.guard := rfl
@[simp] theorem State.clearPeaks_health (g : Group) : (s.clearPeaks g).health = s.health := rfl
@[simp] theorem State.clearPeaks_test (g : Group) : (s.clearPeaks g).test = s.test := rfl
@[simp] theorem State.clearPeaks_sa (g : Group) : (s.clearPeaks g).sa = s.sa := rfl
@[simp] theorem State.clearPeaks_link (g : Group) : (s.clearPeaks g).link = s.link := rfl
@[simp] theorem State.clearPeaks_store (g : Group) : (s.clearPeaks g).store = s.store := rfl
@[simp] theorem State.clearPeaks_pending (g : Group) : (s.clearPeaks g).pending = s.pending := rfl

/-- The highest reading restarts on the channels of the group, and every channel stays as it was otherwise. -/
theorem State.clearPeaks_chan (g : Group) (c : ChannelId) :
    (s.clearPeaks g).chan c = if c.owner = g then { s.chan c with peak := 0 } else s.chan c := by
  simp [State.clearPeaks, State.chan]

@[simp] theorem State.clearPeaks_driven (g : Group) (c : ChannelId) : (s.clearPeaks g).driven c = s.driven c := by
  simp only [State.driven, State.clearPeaks_chan]
  split <;> rfl

/-! ## setSense -/

@[simp] theorem State.setSense_power (r : RoomId) (x : RoomSense) : (s.setSense r x).power = s.power := rfl
@[simp] theorem State.setSense_straps (r : RoomId) (x : RoomSense) : (s.setSense r x).straps = s.straps := rfl
@[simp] theorem State.setSense_clock (r : RoomId) (x : RoomSense) : (s.setSense r x).clock = s.clock := rfl
@[simp] theorem State.setSense_inputs (r : RoomId) (x : RoomSense) : (s.setSense r x).inputs = s.inputs := rfl
@[simp] theorem State.setSense_jk (r : RoomId) (x : RoomSense) : (s.setSense r x).jk = s.jk := rfl
@[simp] theorem State.setSense_rooms (r : RoomId) (x : RoomSense) : (s.setSense r x).rooms = s.rooms := rfl
@[simp] theorem State.setSense_aw (r : RoomId) (x : RoomSense) : (s.setSense r x).aw = s.aw := rfl
@[simp] theorem State.setSense_wind (r : RoomId) (x : RoomSense) : (s.setSense r x).wind = s.wind := rfl
@[simp] theorem State.setSense_arb (r : RoomId) (x : RoomSense) : (s.setSense r x).arb = s.arb := rfl
@[simp] theorem State.setSense_guard (r : RoomId) (x : RoomSense) : (s.setSense r x).guard = s.guard := rfl
@[simp] theorem State.setSense_ch (r : RoomId) (x : RoomSense) : (s.setSense r x).ch = s.ch := rfl
@[simp] theorem State.setSense_health (r : RoomId) (x : RoomSense) : (s.setSense r x).health = s.health := rfl
@[simp] theorem State.setSense_test (r : RoomId) (x : RoomSense) : (s.setSense r x).test = s.test := rfl
@[simp] theorem State.setSense_sa (r : RoomId) (x : RoomSense) : (s.setSense r x).sa = s.sa := rfl
@[simp] theorem State.setSense_link (r : RoomId) (x : RoomSense) : (s.setSense r x).link = s.link := rfl
@[simp] theorem State.setSense_store (r : RoomId) (x : RoomSense) : (s.setSense r x).store = s.store := rfl
@[simp] theorem State.setSense_pending (r : RoomId) (x : RoomSense) : (s.setSense r x).pending = s.pending := rfl

/-! ## zeroRoom -/

@[simp] theorem State.zeroRoom_power (r : RoomId) : (s.zeroRoom r).power = s.power := rfl
@[simp] theorem State.zeroRoom_straps (r : RoomId) : (s.zeroRoom r).straps = s.straps := rfl
@[simp] theorem State.zeroRoom_clock (r : RoomId) : (s.zeroRoom r).clock = s.clock := rfl
@[simp] theorem State.zeroRoom_inputs (r : RoomId) : (s.zeroRoom r).inputs = s.inputs := rfl
@[simp] theorem State.zeroRoom_jk (r : RoomId) : (s.zeroRoom r).jk = s.jk := rfl
@[simp] theorem State.zeroRoom_rooms (r : RoomId) : (s.zeroRoom r).rooms = s.rooms := rfl
@[simp] theorem State.zeroRoom_aw (r : RoomId) : (s.zeroRoom r).aw = s.aw := rfl
@[simp] theorem State.zeroRoom_wind (r : RoomId) : (s.zeroRoom r).wind = s.wind := rfl
@[simp] theorem State.zeroRoom_arb (r : RoomId) : (s.zeroRoom r).arb = s.arb := rfl
@[simp] theorem State.zeroRoom_guard (r : RoomId) : (s.zeroRoom r).guard = s.guard := rfl
@[simp] theorem State.zeroRoom_ch (r : RoomId) : (s.zeroRoom r).ch = s.ch := rfl
@[simp] theorem State.zeroRoom_health (r : RoomId) : (s.zeroRoom r).health = s.health := rfl
@[simp] theorem State.zeroRoom_test (r : RoomId) : (s.zeroRoom r).test = s.test := rfl
@[simp] theorem State.zeroRoom_sa (r : RoomId) : (s.zeroRoom r).sa = s.sa := rfl
@[simp] theorem State.zeroRoom_link (r : RoomId) : (s.zeroRoom r).link = s.link := rfl
@[simp] theorem State.zeroRoom_store (r : RoomId) : (s.zeroRoom r).store = s.store := rfl
@[simp] theorem State.zeroRoom_pending (r : RoomId) : (s.zeroRoom r).pending = s.pending := rfl

/-! ## zeroAwning -/

@[simp] theorem State.zeroAwning_power : s.zeroAwning.power = s.power := rfl
@[simp] theorem State.zeroAwning_straps : s.zeroAwning.straps = s.straps := rfl
@[simp] theorem State.zeroAwning_clock : s.zeroAwning.clock = s.clock := rfl
@[simp] theorem State.zeroAwning_inputs : s.zeroAwning.inputs = s.inputs := rfl
@[simp] theorem State.zeroAwning_jk : s.zeroAwning.jk = s.jk := rfl
@[simp] theorem State.zeroAwning_rooms : s.zeroAwning.rooms = s.rooms := rfl
@[simp] theorem State.zeroAwning_aw : s.zeroAwning.aw = s.aw := rfl
@[simp] theorem State.zeroAwning_wind : s.zeroAwning.wind = s.wind := rfl
@[simp] theorem State.zeroAwning_arb : s.zeroAwning.arb = s.arb := rfl
@[simp] theorem State.zeroAwning_guard : s.zeroAwning.guard = s.guard := rfl
@[simp] theorem State.zeroAwning_ch : s.zeroAwning.ch = s.ch := rfl
@[simp] theorem State.zeroAwning_health : s.zeroAwning.health = s.health := rfl
@[simp] theorem State.zeroAwning_test : s.zeroAwning.test = s.test := rfl
@[simp] theorem State.zeroAwning_sa : s.zeroAwning.sa = s.sa := rfl
@[simp] theorem State.zeroAwning_link : s.zeroAwning.link = s.link := rfl
@[simp] theorem State.zeroAwning_store : s.zeroAwning.store = s.store := rfl
@[simp] theorem State.zeroAwning_pending : s.zeroAwning.pending = s.pending := rfl

/-! ## emptyRing -/

@[simp] theorem State.emptyRing_power : s.emptyRing.power = s.power := rfl
@[simp] theorem State.emptyRing_straps : s.emptyRing.straps = s.straps := rfl
@[simp] theorem State.emptyRing_clock : s.emptyRing.clock = s.clock := rfl
@[simp] theorem State.emptyRing_inputs : s.emptyRing.inputs = s.inputs := rfl
@[simp] theorem State.emptyRing_jk : s.emptyRing.jk = s.jk := rfl
@[simp] theorem State.emptyRing_rooms : s.emptyRing.rooms = s.rooms := rfl
@[simp] theorem State.emptyRing_aw : s.emptyRing.aw = s.aw := rfl
@[simp] theorem State.emptyRing_wind : s.emptyRing.wind = s.wind := rfl
@[simp] theorem State.emptyRing_arb : s.emptyRing.arb = s.arb := rfl
@[simp] theorem State.emptyRing_guard : s.emptyRing.guard = s.guard := rfl
@[simp] theorem State.emptyRing_ch : s.emptyRing.ch = s.ch := rfl
@[simp] theorem State.emptyRing_health : s.emptyRing.health = s.health := rfl
@[simp] theorem State.emptyRing_test : s.emptyRing.test = s.test := rfl
@[simp] theorem State.emptyRing_sa : s.emptyRing.sa = s.sa := rfl
@[simp] theorem State.emptyRing_link : s.emptyRing.link = s.link := rfl
@[simp] theorem State.emptyRing_store : s.emptyRing.store = s.store := rfl
@[simp] theorem State.emptyRing_pending : s.emptyRing.pending = s.pending := rfl

/-! ## setClock -/

@[simp] theorem State.setClock_power (c : Clock) : (s.setClock c).power = s.power := rfl
@[simp] theorem State.setClock_straps (c : Clock) : (s.setClock c).straps = s.straps := rfl
@[simp] theorem State.setClock_fe (c : Clock) : (s.setClock c).fe = s.fe := rfl
@[simp] theorem State.setClock_inputs (c : Clock) : (s.setClock c).inputs = s.inputs := rfl
@[simp] theorem State.setClock_jk (c : Clock) : (s.setClock c).jk = s.jk := rfl
@[simp] theorem State.setClock_rooms (c : Clock) : (s.setClock c).rooms = s.rooms := rfl
@[simp] theorem State.setClock_aw (c : Clock) : (s.setClock c).aw = s.aw := rfl
@[simp] theorem State.setClock_wind (c : Clock) : (s.setClock c).wind = s.wind := rfl
@[simp] theorem State.setClock_arb (c : Clock) : (s.setClock c).arb = s.arb := rfl
@[simp] theorem State.setClock_guard (c : Clock) : (s.setClock c).guard = s.guard := rfl
@[simp] theorem State.setClock_ch (c : Clock) : (s.setClock c).ch = s.ch := rfl
@[simp] theorem State.setClock_health (c : Clock) : (s.setClock c).health = s.health := rfl
@[simp] theorem State.setClock_test (c : Clock) : (s.setClock c).test = s.test := rfl
@[simp] theorem State.setClock_sa (c : Clock) : (s.setClock c).sa = s.sa := rfl
@[simp] theorem State.setClock_link (c : Clock) : (s.setClock c).link = s.link := rfl
@[simp] theorem State.setClock_store (c : Clock) : (s.setClock c).store = s.store := rfl
@[simp] theorem State.setClock_pending (c : Clock) : (s.setClock c).pending = s.pending := rfl

/-! ## setInputs -/

@[simp] theorem State.setInputs_power (i : Inputs) : (s.setInputs i).power = s.power := rfl
@[simp] theorem State.setInputs_straps (i : Inputs) : (s.setInputs i).straps = s.straps := rfl
@[simp] theorem State.setInputs_clock (i : Inputs) : (s.setInputs i).clock = s.clock := rfl
@[simp] theorem State.setInputs_fe (i : Inputs) : (s.setInputs i).fe = s.fe := rfl
@[simp] theorem State.setInputs_jk (i : Inputs) : (s.setInputs i).jk = s.jk := rfl
@[simp] theorem State.setInputs_rooms (i : Inputs) : (s.setInputs i).rooms = s.rooms := rfl
@[simp] theorem State.setInputs_aw (i : Inputs) : (s.setInputs i).aw = s.aw := rfl
@[simp] theorem State.setInputs_wind (i : Inputs) : (s.setInputs i).wind = s.wind := rfl
@[simp] theorem State.setInputs_arb (i : Inputs) : (s.setInputs i).arb = s.arb := rfl
@[simp] theorem State.setInputs_guard (i : Inputs) : (s.setInputs i).guard = s.guard := rfl
@[simp] theorem State.setInputs_ch (i : Inputs) : (s.setInputs i).ch = s.ch := rfl
@[simp] theorem State.setInputs_health (i : Inputs) : (s.setInputs i).health = s.health := rfl
@[simp] theorem State.setInputs_test (i : Inputs) : (s.setInputs i).test = s.test := rfl
@[simp] theorem State.setInputs_sa (i : Inputs) : (s.setInputs i).sa = s.sa := rfl
@[simp] theorem State.setInputs_link (i : Inputs) : (s.setInputs i).link = s.link := rfl
@[simp] theorem State.setInputs_store (i : Inputs) : (s.setInputs i).store = s.store := rfl
@[simp] theorem State.setInputs_pending (i : Inputs) : (s.setInputs i).pending = s.pending := rfl

/-! ## setHealth -/

@[simp] theorem State.setHealth_power (c : ChannelId) (h : Health) : (s.setHealth c h).power = s.power := rfl
@[simp] theorem State.setHealth_straps (c : ChannelId) (h : Health) : (s.setHealth c h).straps = s.straps := rfl
@[simp] theorem State.setHealth_clock (c : ChannelId) (h : Health) : (s.setHealth c h).clock = s.clock := rfl
@[simp] theorem State.setHealth_fe (c : ChannelId) (h : Health) : (s.setHealth c h).fe = s.fe := rfl
@[simp] theorem State.setHealth_inputs (c : ChannelId) (h : Health) : (s.setHealth c h).inputs = s.inputs := rfl
@[simp] theorem State.setHealth_jk (c : ChannelId) (h : Health) : (s.setHealth c h).jk = s.jk := rfl
@[simp] theorem State.setHealth_rooms (c : ChannelId) (h : Health) : (s.setHealth c h).rooms = s.rooms := rfl
@[simp] theorem State.setHealth_aw (c : ChannelId) (h : Health) : (s.setHealth c h).aw = s.aw := rfl
@[simp] theorem State.setHealth_wind (c : ChannelId) (h : Health) : (s.setHealth c h).wind = s.wind := rfl
@[simp] theorem State.setHealth_arb (c : ChannelId) (h : Health) : (s.setHealth c h).arb = s.arb := rfl
@[simp] theorem State.setHealth_guard (c : ChannelId) (h : Health) : (s.setHealth c h).guard = s.guard := rfl
@[simp] theorem State.setHealth_ch (c : ChannelId) (h : Health) : (s.setHealth c h).ch = s.ch := rfl
@[simp] theorem State.setHealth_test (c : ChannelId) (h : Health) : (s.setHealth c h).test = s.test := rfl
@[simp] theorem State.setHealth_sa (c : ChannelId) (h : Health) : (s.setHealth c h).sa = s.sa := rfl
@[simp] theorem State.setHealth_link (c : ChannelId) (h : Health) : (s.setHealth c h).link = s.link := rfl
@[simp] theorem State.setHealth_store (c : ChannelId) (h : Health) : (s.setHealth c h).store = s.store := rfl
@[simp] theorem State.setHealth_pending (c : ChannelId) (h : Health) : (s.setHealth c h).pending = s.pending := rfl

/-! ## modAw -/

@[simp] theorem State.modAw_power (f : Awning → Awning) : (s.modAw f).power = s.power := rfl
@[simp] theorem State.modAw_straps (f : Awning → Awning) : (s.modAw f).straps = s.straps := rfl
@[simp] theorem State.modAw_clock (f : Awning → Awning) : (s.modAw f).clock = s.clock := rfl
@[simp] theorem State.modAw_fe (f : Awning → Awning) : (s.modAw f).fe = s.fe := rfl
@[simp] theorem State.modAw_inputs (f : Awning → Awning) : (s.modAw f).inputs = s.inputs := rfl
@[simp] theorem State.modAw_jk (f : Awning → Awning) : (s.modAw f).jk = s.jk := rfl
@[simp] theorem State.modAw_rooms (f : Awning → Awning) : (s.modAw f).rooms = s.rooms := rfl
@[simp] theorem State.modAw_wind (f : Awning → Awning) : (s.modAw f).wind = s.wind := rfl
@[simp] theorem State.modAw_arb (f : Awning → Awning) : (s.modAw f).arb = s.arb := rfl
@[simp] theorem State.modAw_guard (f : Awning → Awning) : (s.modAw f).guard = s.guard := rfl
@[simp] theorem State.modAw_ch (f : Awning → Awning) : (s.modAw f).ch = s.ch := rfl
@[simp] theorem State.modAw_health (f : Awning → Awning) : (s.modAw f).health = s.health := rfl
@[simp] theorem State.modAw_test (f : Awning → Awning) : (s.modAw f).test = s.test := rfl
@[simp] theorem State.modAw_sa (f : Awning → Awning) : (s.modAw f).sa = s.sa := rfl
@[simp] theorem State.modAw_link (f : Awning → Awning) : (s.modAw f).link = s.link := rfl
@[simp] theorem State.modAw_store (f : Awning → Awning) : (s.modAw f).store = s.store := rfl
@[simp] theorem State.modAw_pending (f : Awning → Awning) : (s.modAw f).pending = s.pending := rfl

/-! ## setPending -/

@[simp] theorem State.setPending_power (p : Option StowCause) : (s.setPending p).power = s.power := rfl
@[simp] theorem State.setPending_straps (p : Option StowCause) : (s.setPending p).straps = s.straps := rfl
@[simp] theorem State.setPending_clock (p : Option StowCause) : (s.setPending p).clock = s.clock := rfl
@[simp] theorem State.setPending_fe (p : Option StowCause) : (s.setPending p).fe = s.fe := rfl
@[simp] theorem State.setPending_inputs (p : Option StowCause) : (s.setPending p).inputs = s.inputs := rfl
@[simp] theorem State.setPending_jk (p : Option StowCause) : (s.setPending p).jk = s.jk := rfl
@[simp] theorem State.setPending_rooms (p : Option StowCause) : (s.setPending p).rooms = s.rooms := rfl
@[simp] theorem State.setPending_wind (p : Option StowCause) : (s.setPending p).wind = s.wind := rfl
@[simp] theorem State.setPending_arb (p : Option StowCause) : (s.setPending p).arb = s.arb := rfl
@[simp] theorem State.setPending_guard (p : Option StowCause) : (s.setPending p).guard = s.guard := rfl
@[simp] theorem State.setPending_ch (p : Option StowCause) : (s.setPending p).ch = s.ch := rfl
@[simp] theorem State.setPending_health (p : Option StowCause) : (s.setPending p).health = s.health := rfl
@[simp] theorem State.setPending_test (p : Option StowCause) : (s.setPending p).test = s.test := rfl
@[simp] theorem State.setPending_sa (p : Option StowCause) : (s.setPending p).sa = s.sa := rfl
@[simp] theorem State.setPending_link (p : Option StowCause) : (s.setPending p).link = s.link := rfl
@[simp] theorem State.setPending_store (p : Option StowCause) : (s.setPending p).store = s.store := rfl
@[simp] theorem State.setPending_pending (p : Option StowCause) : (s.setPending p).pending = s.pending := rfl

/-! ## modArb -/

@[simp] theorem State.modArb_power (f : Arbiter → Arbiter) : (s.modArb f).power = s.power := rfl
@[simp] theorem State.modArb_straps (f : Arbiter → Arbiter) : (s.modArb f).straps = s.straps := rfl
@[simp] theorem State.modArb_clock (f : Arbiter → Arbiter) : (s.modArb f).clock = s.clock := rfl
@[simp] theorem State.modArb_fe (f : Arbiter → Arbiter) : (s.modArb f).fe = s.fe := rfl
@[simp] theorem State.modArb_inputs (f : Arbiter → Arbiter) : (s.modArb f).inputs = s.inputs := rfl
@[simp] theorem State.modArb_jk (f : Arbiter → Arbiter) : (s.modArb f).jk = s.jk := rfl
@[simp] theorem State.modArb_rooms (f : Arbiter → Arbiter) : (s.modArb f).rooms = s.rooms := rfl
@[simp] theorem State.modArb_aw (f : Arbiter → Arbiter) : (s.modArb f).aw = s.aw := rfl
@[simp] theorem State.modArb_wind (f : Arbiter → Arbiter) : (s.modArb f).wind = s.wind := rfl
@[simp] theorem State.modArb_guard (f : Arbiter → Arbiter) : (s.modArb f).guard = s.guard := rfl
@[simp] theorem State.modArb_ch (f : Arbiter → Arbiter) : (s.modArb f).ch = s.ch := rfl
@[simp] theorem State.modArb_health (f : Arbiter → Arbiter) : (s.modArb f).health = s.health := rfl
@[simp] theorem State.modArb_test (f : Arbiter → Arbiter) : (s.modArb f).test = s.test := rfl
@[simp] theorem State.modArb_sa (f : Arbiter → Arbiter) : (s.modArb f).sa = s.sa := rfl
@[simp] theorem State.modArb_link (f : Arbiter → Arbiter) : (s.modArb f).link = s.link := rfl
@[simp] theorem State.modArb_store (f : Arbiter → Arbiter) : (s.modArb f).store = s.store := rfl
@[simp] theorem State.modArb_pending (f : Arbiter → Arbiter) : (s.modArb f).pending = s.pending := rfl

/-! ## setHit -/

@[simp] theorem State.setHit_power (i : Nat) (u : WatchUnit) (b : Bool) : (s.setHit i u b).power = s.power := rfl
@[simp] theorem State.setHit_straps (i : Nat) (u : WatchUnit) (b : Bool) : (s.setHit i u b).straps = s.straps := rfl
@[simp] theorem State.setHit_clock (i : Nat) (u : WatchUnit) (b : Bool) : (s.setHit i u b).clock = s.clock := rfl
@[simp] theorem State.setHit_fe (i : Nat) (u : WatchUnit) (b : Bool) : (s.setHit i u b).fe = s.fe := rfl
@[simp] theorem State.setHit_inputs (i : Nat) (u : WatchUnit) (b : Bool) : (s.setHit i u b).inputs = s.inputs := rfl
@[simp] theorem State.setHit_jk (i : Nat) (u : WatchUnit) (b : Bool) : (s.setHit i u b).jk = s.jk := rfl
@[simp] theorem State.setHit_rooms (i : Nat) (u : WatchUnit) (b : Bool) : (s.setHit i u b).rooms = s.rooms := rfl
@[simp] theorem State.setHit_aw (i : Nat) (u : WatchUnit) (b : Bool) : (s.setHit i u b).aw = s.aw := rfl
@[simp] theorem State.setHit_wind (i : Nat) (u : WatchUnit) (b : Bool) : (s.setHit i u b).wind = s.wind := rfl
@[simp] theorem State.setHit_arb (i : Nat) (u : WatchUnit) (b : Bool) : (s.setHit i u b).arb = s.arb := rfl
@[simp] theorem State.setHit_ch (i : Nat) (u : WatchUnit) (b : Bool) : (s.setHit i u b).ch = s.ch := rfl
@[simp] theorem State.setHit_health (i : Nat) (u : WatchUnit) (b : Bool) : (s.setHit i u b).health = s.health := rfl
@[simp] theorem State.setHit_test (i : Nat) (u : WatchUnit) (b : Bool) : (s.setHit i u b).test = s.test := rfl
@[simp] theorem State.setHit_sa (i : Nat) (u : WatchUnit) (b : Bool) : (s.setHit i u b).sa = s.sa := rfl
@[simp] theorem State.setHit_link (i : Nat) (u : WatchUnit) (b : Bool) : (s.setHit i u b).link = s.link := rfl
@[simp] theorem State.setHit_store (i : Nat) (u : WatchUnit) (b : Bool) : (s.setHit i u b).store = s.store := rfl
@[simp] theorem State.setHit_pending (i : Nat) (u : WatchUnit) (b : Bool) : (s.setHit i u b).pending = s.pending := rfl

/-! ## claimJacks -/

@[simp] theorem State.claimJacks_power : s.claimJacks.power = s.power := rfl
@[simp] theorem State.claimJacks_straps : s.claimJacks.straps = s.straps := rfl
@[simp] theorem State.claimJacks_clock : s.claimJacks.clock = s.clock := rfl
@[simp] theorem State.claimJacks_fe : s.claimJacks.fe = s.fe := rfl
@[simp] theorem State.claimJacks_inputs : s.claimJacks.inputs = s.inputs := rfl
@[simp] theorem State.claimJacks_jk : s.claimJacks.jk = s.jk := rfl
@[simp] theorem State.claimJacks_rooms : s.claimJacks.rooms = s.rooms := rfl
@[simp] theorem State.claimJacks_aw : s.claimJacks.aw = s.aw := rfl
@[simp] theorem State.claimJacks_wind : s.claimJacks.wind = s.wind := rfl
@[simp] theorem State.claimJacks_arb : s.claimJacks.arb = s.arb := rfl
@[simp] theorem State.claimJacks_ch : s.claimJacks.ch = s.ch := rfl
@[simp] theorem State.claimJacks_health : s.claimJacks.health = s.health := rfl
@[simp] theorem State.claimJacks_test : s.claimJacks.test = s.test := rfl
@[simp] theorem State.claimJacks_sa : s.claimJacks.sa = s.sa := rfl
@[simp] theorem State.claimJacks_link : s.claimJacks.link = s.link := rfl
@[simp] theorem State.claimJacks_store : s.claimJacks.store = s.store := rfl
@[simp] theorem State.claimJacks_pending : s.claimJacks.pending = s.pending := rfl

/-! ## claimRoom -/

@[simp] theorem State.claimRoom_power (r : RoomId) : (s.claimRoom r).power = s.power := rfl
@[simp] theorem State.claimRoom_straps (r : RoomId) : (s.claimRoom r).straps = s.straps := rfl
@[simp] theorem State.claimRoom_clock (r : RoomId) : (s.claimRoom r).clock = s.clock := rfl
@[simp] theorem State.claimRoom_fe (r : RoomId) : (s.claimRoom r).fe = s.fe := rfl
@[simp] theorem State.claimRoom_inputs (r : RoomId) : (s.claimRoom r).inputs = s.inputs := rfl
@[simp] theorem State.claimRoom_jk (r : RoomId) : (s.claimRoom r).jk = s.jk := rfl
@[simp] theorem State.claimRoom_rooms (r : RoomId) : (s.claimRoom r).rooms = s.rooms := rfl
@[simp] theorem State.claimRoom_aw (r : RoomId) : (s.claimRoom r).aw = s.aw := rfl
@[simp] theorem State.claimRoom_wind (r : RoomId) : (s.claimRoom r).wind = s.wind := rfl
@[simp] theorem State.claimRoom_arb (r : RoomId) : (s.claimRoom r).arb = s.arb := rfl
@[simp] theorem State.claimRoom_ch (r : RoomId) : (s.claimRoom r).ch = s.ch := rfl
@[simp] theorem State.claimRoom_health (r : RoomId) : (s.claimRoom r).health = s.health := rfl
@[simp] theorem State.claimRoom_test (r : RoomId) : (s.claimRoom r).test = s.test := rfl
@[simp] theorem State.claimRoom_sa (r : RoomId) : (s.claimRoom r).sa = s.sa := rfl
@[simp] theorem State.claimRoom_link (r : RoomId) : (s.claimRoom r).link = s.link := rfl
@[simp] theorem State.claimRoom_store (r : RoomId) : (s.claimRoom r).store = s.store := rfl
@[simp] theorem State.claimRoom_pending (r : RoomId) : (s.claimRoom r).pending = s.pending := rfl

/-! ## giveUp -/

@[simp] theorem State.giveUp_power (g : Group) : (s.giveUp g).power = s.power := by cases g <;> rfl
@[simp] theorem State.giveUp_straps (g : Group) : (s.giveUp g).straps = s.straps := by cases g <;> rfl
@[simp] theorem State.giveUp_clock (g : Group) : (s.giveUp g).clock = s.clock := by cases g <;> rfl
@[simp] theorem State.giveUp_fe (g : Group) : (s.giveUp g).fe = s.fe := by cases g <;> rfl
@[simp] theorem State.giveUp_inputs (g : Group) : (s.giveUp g).inputs = s.inputs := by cases g <;> rfl
@[simp] theorem State.giveUp_jk (g : Group) : (s.giveUp g).jk = s.jk := by cases g <;> rfl
@[simp] theorem State.giveUp_rooms (g : Group) : (s.giveUp g).rooms = s.rooms := by cases g <;> rfl
@[simp] theorem State.giveUp_aw (g : Group) : (s.giveUp g).aw = s.aw := by cases g <;> rfl
@[simp] theorem State.giveUp_wind (g : Group) : (s.giveUp g).wind = s.wind := by cases g <;> rfl
@[simp] theorem State.giveUp_arb (g : Group) : (s.giveUp g).arb = s.arb := by cases g <;> rfl
@[simp] theorem State.giveUp_ch (g : Group) : (s.giveUp g).ch = s.ch := by cases g <;> rfl
@[simp] theorem State.giveUp_health (g : Group) : (s.giveUp g).health = s.health := by cases g <;> rfl
@[simp] theorem State.giveUp_test (g : Group) : (s.giveUp g).test = s.test := by cases g <;> rfl
@[simp] theorem State.giveUp_sa (g : Group) : (s.giveUp g).sa = s.sa := by cases g <;> rfl
@[simp] theorem State.giveUp_link (g : Group) : (s.giveUp g).link = s.link := by cases g <;> rfl
@[simp] theorem State.giveUp_store (g : Group) : (s.giveUp g).store = s.store := by cases g <;> rfl
@[simp] theorem State.giveUp_pending (g : Group) : (s.giveUp g).pending = s.pending := by cases g <;> rfl

/-! ## setLight -/

@[simp] theorem State.setLight_power (j : JackId) (b : Bool) : (s.setLight j b).power = s.power := rfl
@[simp] theorem State.setLight_straps (j : JackId) (b : Bool) : (s.setLight j b).straps = s.straps := rfl
@[simp] theorem State.setLight_clock (j : JackId) (b : Bool) : (s.setLight j b).clock = s.clock := rfl
@[simp] theorem State.setLight_fe (j : JackId) (b : Bool) : (s.setLight j b).fe = s.fe := rfl
@[simp] theorem State.setLight_inputs (j : JackId) (b : Bool) : (s.setLight j b).inputs = s.inputs := rfl
@[simp] theorem State.setLight_rooms (j : JackId) (b : Bool) : (s.setLight j b).rooms = s.rooms := rfl
@[simp] theorem State.setLight_aw (j : JackId) (b : Bool) : (s.setLight j b).aw = s.aw := rfl
@[simp] theorem State.setLight_wind (j : JackId) (b : Bool) : (s.setLight j b).wind = s.wind := rfl
@[simp] theorem State.setLight_arb (j : JackId) (b : Bool) : (s.setLight j b).arb = s.arb := rfl
@[simp] theorem State.setLight_guard (j : JackId) (b : Bool) : (s.setLight j b).guard = s.guard := rfl
@[simp] theorem State.setLight_ch (j : JackId) (b : Bool) : (s.setLight j b).ch = s.ch := rfl
@[simp] theorem State.setLight_health (j : JackId) (b : Bool) : (s.setLight j b).health = s.health := rfl
@[simp] theorem State.setLight_test (j : JackId) (b : Bool) : (s.setLight j b).test = s.test := rfl
@[simp] theorem State.setLight_sa (j : JackId) (b : Bool) : (s.setLight j b).sa = s.sa := rfl
@[simp] theorem State.setLight_link (j : JackId) (b : Bool) : (s.setLight j b).link = s.link := rfl
@[simp] theorem State.setLight_store (j : JackId) (b : Bool) : (s.setLight j b).store = s.store := rfl
@[simp] theorem State.setLight_pending (j : JackId) (b : Bool) : (s.setLight j b).pending = s.pending := rfl

/-! ## setTouch -/

@[simp] theorem State.setTouch_power (j : JackId) : (s.setTouch j).power = s.power := rfl
@[simp] theorem State.setTouch_straps (j : JackId) : (s.setTouch j).straps = s.straps := rfl
@[simp] theorem State.setTouch_clock (j : JackId) : (s.setTouch j).clock = s.clock := rfl
@[simp] theorem State.setTouch_fe (j : JackId) : (s.setTouch j).fe = s.fe := rfl
@[simp] theorem State.setTouch_inputs (j : JackId) : (s.setTouch j).inputs = s.inputs := rfl
@[simp] theorem State.setTouch_rooms (j : JackId) : (s.setTouch j).rooms = s.rooms := rfl
@[simp] theorem State.setTouch_aw (j : JackId) : (s.setTouch j).aw = s.aw := rfl
@[simp] theorem State.setTouch_wind (j : JackId) : (s.setTouch j).wind = s.wind := rfl
@[simp] theorem State.setTouch_arb (j : JackId) : (s.setTouch j).arb = s.arb := rfl
@[simp] theorem State.setTouch_guard (j : JackId) : (s.setTouch j).guard = s.guard := rfl
@[simp] theorem State.setTouch_ch (j : JackId) : (s.setTouch j).ch = s.ch := rfl
@[simp] theorem State.setTouch_health (j : JackId) : (s.setTouch j).health = s.health := rfl
@[simp] theorem State.setTouch_test (j : JackId) : (s.setTouch j).test = s.test := rfl
@[simp] theorem State.setTouch_sa (j : JackId) : (s.setTouch j).sa = s.sa := rfl
@[simp] theorem State.setTouch_link (j : JackId) : (s.setTouch j).link = s.link := rfl
@[simp] theorem State.setTouch_store (j : JackId) : (s.setTouch j).store = s.store := rfl
@[simp] theorem State.setTouch_pending (j : JackId) : (s.setTouch j).pending = s.pending := rfl

/-! ## markDone -/

@[simp] theorem State.markDone_power (t : Station) : (s.markDone t).power = s.power := by cases t <;> rfl
@[simp] theorem State.markDone_straps (t : Station) : (s.markDone t).straps = s.straps := by cases t <;> rfl
@[simp] theorem State.markDone_clock (t : Station) : (s.markDone t).clock = s.clock := by cases t <;> rfl
@[simp] theorem State.markDone_fe (t : Station) : (s.markDone t).fe = s.fe := by cases t <;> rfl
@[simp] theorem State.markDone_inputs (t : Station) : (s.markDone t).inputs = s.inputs := by cases t <;> rfl
@[simp] theorem State.markDone_rooms (t : Station) : (s.markDone t).rooms = s.rooms := by cases t <;> rfl
@[simp] theorem State.markDone_aw (t : Station) : (s.markDone t).aw = s.aw := by cases t <;> rfl
@[simp] theorem State.markDone_wind (t : Station) : (s.markDone t).wind = s.wind := by cases t <;> rfl
@[simp] theorem State.markDone_arb (t : Station) : (s.markDone t).arb = s.arb := by cases t <;> rfl
@[simp] theorem State.markDone_guard (t : Station) : (s.markDone t).guard = s.guard := by cases t <;> rfl
@[simp] theorem State.markDone_ch (t : Station) : (s.markDone t).ch = s.ch := by cases t <;> rfl
@[simp] theorem State.markDone_health (t : Station) : (s.markDone t).health = s.health := by cases t <;> rfl
@[simp] theorem State.markDone_test (t : Station) : (s.markDone t).test = s.test := by cases t <;> rfl
@[simp] theorem State.markDone_sa (t : Station) : (s.markDone t).sa = s.sa := by cases t <;> rfl
@[simp] theorem State.markDone_link (t : Station) : (s.markDone t).link = s.link := by cases t <;> rfl
@[simp] theorem State.markDone_store (t : Station) : (s.markDone t).store = s.store := by cases t <;> rfl
@[simp] theorem State.markDone_pending (t : Station) : (s.markDone t).pending = s.pending := by cases t <;> rfl

/-! ## assertDump -/

@[simp] theorem State.assertDump_power : s.assertDump.power = s.power := rfl
@[simp] theorem State.assertDump_straps : s.assertDump.straps = s.straps := rfl
@[simp] theorem State.assertDump_clock : s.assertDump.clock = s.clock := rfl
@[simp] theorem State.assertDump_fe : s.assertDump.fe = s.fe := rfl
@[simp] theorem State.assertDump_inputs : s.assertDump.inputs = s.inputs := rfl
@[simp] theorem State.assertDump_rooms : s.assertDump.rooms = s.rooms := rfl
@[simp] theorem State.assertDump_aw : s.assertDump.aw = s.aw := rfl
@[simp] theorem State.assertDump_wind : s.assertDump.wind = s.wind := rfl
@[simp] theorem State.assertDump_arb : s.assertDump.arb = s.arb := rfl
@[simp] theorem State.assertDump_guard : s.assertDump.guard = s.guard := rfl
@[simp] theorem State.assertDump_ch : s.assertDump.ch = s.ch := rfl
@[simp] theorem State.assertDump_health : s.assertDump.health = s.health := rfl
@[simp] theorem State.assertDump_test : s.assertDump.test = s.test := rfl
@[simp] theorem State.assertDump_sa : s.assertDump.sa = s.sa := rfl
@[simp] theorem State.assertDump_link : s.assertDump.link = s.link := rfl
@[simp] theorem State.assertDump_store : s.assertDump.store = s.store := rfl
@[simp] theorem State.assertDump_pending : s.assertDump.pending = s.pending := rfl

/-! ## startStore -/

@[simp] theorem State.startStore_power (j : StoreJob) : (s.startStore j).power = s.power := rfl
@[simp] theorem State.startStore_straps (j : StoreJob) : (s.startStore j).straps = s.straps := rfl
@[simp] theorem State.startStore_clock (j : StoreJob) : (s.startStore j).clock = s.clock := rfl
@[simp] theorem State.startStore_fe (j : StoreJob) : (s.startStore j).fe = s.fe := rfl
@[simp] theorem State.startStore_inputs (j : StoreJob) : (s.startStore j).inputs = s.inputs := rfl
@[simp] theorem State.startStore_jk (j : StoreJob) : (s.startStore j).jk = s.jk := rfl
@[simp] theorem State.startStore_rooms (j : StoreJob) : (s.startStore j).rooms = s.rooms := rfl
@[simp] theorem State.startStore_aw (j : StoreJob) : (s.startStore j).aw = s.aw := rfl
@[simp] theorem State.startStore_wind (j : StoreJob) : (s.startStore j).wind = s.wind := rfl
@[simp] theorem State.startStore_arb (j : StoreJob) : (s.startStore j).arb = s.arb := rfl
@[simp] theorem State.startStore_guard (j : StoreJob) : (s.startStore j).guard = s.guard := rfl
@[simp] theorem State.startStore_ch (j : StoreJob) : (s.startStore j).ch = s.ch := rfl
@[simp] theorem State.startStore_health (j : StoreJob) : (s.startStore j).health = s.health := rfl
@[simp] theorem State.startStore_test (j : StoreJob) : (s.startStore j).test = s.test := rfl
@[simp] theorem State.startStore_sa (j : StoreJob) : (s.startStore j).sa = s.sa := rfl
@[simp] theorem State.startStore_link (j : StoreJob) : (s.startStore j).link = s.link := rfl
@[simp] theorem State.startStore_pending (j : StoreJob) : (s.startStore j).pending = s.pending := rfl

/-! ## putReply -/

@[simp] theorem State.putReply_power (f : SentFrame) : (s.putReply f).power = s.power := rfl
@[simp] theorem State.putReply_straps (f : SentFrame) : (s.putReply f).straps = s.straps := rfl
@[simp] theorem State.putReply_clock (f : SentFrame) : (s.putReply f).clock = s.clock := rfl
@[simp] theorem State.putReply_fe (f : SentFrame) : (s.putReply f).fe = s.fe := rfl
@[simp] theorem State.putReply_inputs (f : SentFrame) : (s.putReply f).inputs = s.inputs := rfl
@[simp] theorem State.putReply_jk (f : SentFrame) : (s.putReply f).jk = s.jk := rfl
@[simp] theorem State.putReply_rooms (f : SentFrame) : (s.putReply f).rooms = s.rooms := rfl
@[simp] theorem State.putReply_aw (f : SentFrame) : (s.putReply f).aw = s.aw := rfl
@[simp] theorem State.putReply_wind (f : SentFrame) : (s.putReply f).wind = s.wind := rfl
@[simp] theorem State.putReply_arb (f : SentFrame) : (s.putReply f).arb = s.arb := rfl
@[simp] theorem State.putReply_guard (f : SentFrame) : (s.putReply f).guard = s.guard := rfl
@[simp] theorem State.putReply_ch (f : SentFrame) : (s.putReply f).ch = s.ch := rfl
@[simp] theorem State.putReply_health (f : SentFrame) : (s.putReply f).health = s.health := rfl
@[simp] theorem State.putReply_test (f : SentFrame) : (s.putReply f).test = s.test := rfl
@[simp] theorem State.putReply_sa (f : SentFrame) : (s.putReply f).sa = s.sa := rfl
@[simp] theorem State.putReply_store (f : SentFrame) : (s.putReply f).store = s.store := rfl
@[simp] theorem State.putReply_pending (f : SentFrame) : (s.putReply f).pending = s.pending := rfl

/-! ## restance -/

@[simp] theorem State.restance_power : s.restance.power = s.power := rfl
@[simp] theorem State.restance_straps : s.restance.straps = s.straps := rfl
@[simp] theorem State.restance_clock : s.restance.clock = s.clock := rfl
@[simp] theorem State.restance_fe : s.restance.fe = s.fe := rfl
@[simp] theorem State.restance_inputs : s.restance.inputs = s.inputs := rfl
@[simp] theorem State.restance_jk : s.restance.jk = s.jk := rfl
@[simp] theorem State.restance_rooms : s.restance.rooms = s.rooms := rfl
@[simp] theorem State.restance_aw : s.restance.aw = s.aw := rfl
@[simp] theorem State.restance_wind : s.restance.wind = s.wind := rfl
@[simp] theorem State.restance_arb : s.restance.arb = s.arb := rfl
@[simp] theorem State.restance_guard : s.restance.guard = s.guard := rfl
@[simp] theorem State.restance_ch : s.restance.ch = s.ch := rfl
@[simp] theorem State.restance_health : s.restance.health = s.health := rfl
@[simp] theorem State.restance_test : s.restance.test = s.test := rfl
@[simp] theorem State.restance_link : s.restance.link = s.link := rfl
@[simp] theorem State.restance_store : s.restance.store = s.store := rfl
@[simp] theorem State.restance_pending : s.restance.pending = s.pending := rfl

/-! ## joinGroup -/

@[simp] theorem State.joinGroup_power (g : Group) : (s.joinGroup g).power = s.power := by unfold State.joinGroup; split <;> rfl
@[simp] theorem State.joinGroup_straps (g : Group) : (s.joinGroup g).straps = s.straps := by unfold State.joinGroup; split <;> rfl
@[simp] theorem State.joinGroup_clock (g : Group) : (s.joinGroup g).clock = s.clock := by unfold State.joinGroup; split <;> rfl
@[simp] theorem State.joinGroup_fe (g : Group) : (s.joinGroup g).fe = s.fe := by unfold State.joinGroup; split <;> rfl
@[simp] theorem State.joinGroup_inputs (g : Group) : (s.joinGroup g).inputs = s.inputs := by unfold State.joinGroup; split <;> rfl
@[simp] theorem State.joinGroup_jk (g : Group) : (s.joinGroup g).jk = s.jk := by unfold State.joinGroup; split <;> rfl
@[simp] theorem State.joinGroup_rooms (g : Group) : (s.joinGroup g).rooms = s.rooms := by unfold State.joinGroup; split <;> rfl
@[simp] theorem State.joinGroup_aw (g : Group) : (s.joinGroup g).aw = s.aw := by unfold State.joinGroup; split <;> rfl
@[simp] theorem State.joinGroup_wind (g : Group) : (s.joinGroup g).wind = s.wind := by unfold State.joinGroup; split <;> rfl
@[simp] theorem State.joinGroup_arb (g : Group) : (s.joinGroup g).arb = s.arb := by unfold State.joinGroup; split <;> rfl
@[simp] theorem State.joinGroup_guard (g : Group) : (s.joinGroup g).guard = s.guard := by unfold State.joinGroup; split <;> rfl
@[simp] theorem State.joinGroup_ch (g : Group) : (s.joinGroup g).ch = s.ch := by unfold State.joinGroup; split <;> rfl
@[simp] theorem State.joinGroup_health (g : Group) : (s.joinGroup g).health = s.health := by unfold State.joinGroup; split <;> rfl
@[simp] theorem State.joinGroup_test (g : Group) : (s.joinGroup g).test = s.test := by unfold State.joinGroup; split <;> rfl
@[simp] theorem State.joinGroup_store (g : Group) : (s.joinGroup g).store = s.store := by unfold State.joinGroup; split <;> rfl
@[simp] theorem State.joinGroup_pending (g : Group) : (s.joinGroup g).pending = s.pending := by unfold State.joinGroup; split <;> rfl

/-! ## joinSupervision -/

@[simp] theorem State.joinSupervision_power (f : SupCauses → SupCauses) : (s.joinSupervision f).power = s.power := by unfold State.joinSupervision; split <;> rfl
@[simp] theorem State.joinSupervision_straps (f : SupCauses → SupCauses) : (s.joinSupervision f).straps = s.straps := by unfold State.joinSupervision; split <;> rfl
@[simp] theorem State.joinSupervision_clock (f : SupCauses → SupCauses) : (s.joinSupervision f).clock = s.clock := by unfold State.joinSupervision; split <;> rfl
@[simp] theorem State.joinSupervision_fe (f : SupCauses → SupCauses) : (s.joinSupervision f).fe = s.fe := by unfold State.joinSupervision; split <;> rfl
@[simp] theorem State.joinSupervision_inputs (f : SupCauses → SupCauses) : (s.joinSupervision f).inputs = s.inputs := by unfold State.joinSupervision; split <;> rfl
@[simp] theorem State.joinSupervision_jk (f : SupCauses → SupCauses) : (s.joinSupervision f).jk = s.jk := by unfold State.joinSupervision; split <;> rfl
@[simp] theorem State.joinSupervision_rooms (f : SupCauses → SupCauses) : (s.joinSupervision f).rooms = s.rooms := by unfold State.joinSupervision; split <;> rfl
@[simp] theorem State.joinSupervision_aw (f : SupCauses → SupCauses) : (s.joinSupervision f).aw = s.aw := by unfold State.joinSupervision; split <;> rfl
@[simp] theorem State.joinSupervision_wind (f : SupCauses → SupCauses) : (s.joinSupervision f).wind = s.wind := by unfold State.joinSupervision; split <;> rfl
@[simp] theorem State.joinSupervision_arb (f : SupCauses → SupCauses) : (s.joinSupervision f).arb = s.arb := by unfold State.joinSupervision; split <;> rfl
@[simp] theorem State.joinSupervision_guard (f : SupCauses → SupCauses) : (s.joinSupervision f).guard = s.guard := by unfold State.joinSupervision; split <;> rfl
@[simp] theorem State.joinSupervision_ch (f : SupCauses → SupCauses) : (s.joinSupervision f).ch = s.ch := by unfold State.joinSupervision; split <;> rfl
@[simp] theorem State.joinSupervision_health (f : SupCauses → SupCauses) : (s.joinSupervision f).health = s.health := by unfold State.joinSupervision; split <;> rfl
@[simp] theorem State.joinSupervision_test (f : SupCauses → SupCauses) : (s.joinSupervision f).test = s.test := by unfold State.joinSupervision; split <;> rfl
@[simp] theorem State.joinSupervision_store (f : SupCauses → SupCauses) : (s.joinSupervision f).store = s.store := by unfold State.joinSupervision; split <;> rfl
@[simp] theorem State.joinSupervision_pending (f : SupCauses → SupCauses) : (s.joinSupervision f).pending = s.pending := by unfold State.joinSupervision; split <;> rfl

/-! ## recordEnd -/

@[simp] theorem State.recordEnd_power (g : Group) (e : StopRecord) : (s.recordEnd g e).power = s.power := by simp [State.recordEnd]
@[simp] theorem State.recordEnd_straps (g : Group) (e : StopRecord) : (s.recordEnd g e).straps = s.straps := by simp [State.recordEnd]
@[simp] theorem State.recordEnd_clock (g : Group) (e : StopRecord) : (s.recordEnd g e).clock = s.clock := by simp [State.recordEnd]
@[simp] theorem State.recordEnd_fe (g : Group) (e : StopRecord) : (s.recordEnd g e).fe = s.fe := by simp [State.recordEnd]
@[simp] theorem State.recordEnd_inputs (g : Group) (e : StopRecord) : (s.recordEnd g e).inputs = s.inputs := by simp [State.recordEnd]
@[simp] theorem State.recordEnd_jk (g : Group) (e : StopRecord) : (s.recordEnd g e).jk = s.jk := by simp [State.recordEnd]
@[simp] theorem State.recordEnd_rooms (g : Group) (e : StopRecord) : (s.recordEnd g e).rooms = s.rooms := by simp [State.recordEnd]
@[simp] theorem State.recordEnd_aw (g : Group) (e : StopRecord) : (s.recordEnd g e).aw = s.aw := by simp [State.recordEnd]
@[simp] theorem State.recordEnd_wind (g : Group) (e : StopRecord) : (s.recordEnd g e).wind = s.wind := by simp [State.recordEnd]
@[simp] theorem State.recordEnd_arb (g : Group) (e : StopRecord) : (s.recordEnd g e).arb = s.arb := by simp [State.recordEnd]
@[simp] theorem State.recordEnd_guard (g : Group) (e : StopRecord) : (s.recordEnd g e).guard = s.guard := by simp [State.recordEnd]
@[simp] theorem State.recordEnd_ch (g : Group) (e : StopRecord) : (s.recordEnd g e).ch = s.ch := by simp [State.recordEnd]
@[simp] theorem State.recordEnd_health (g : Group) (e : StopRecord) : (s.recordEnd g e).health = s.health := by simp [State.recordEnd]
@[simp] theorem State.recordEnd_test (g : Group) (e : StopRecord) : (s.recordEnd g e).test = s.test := by simp [State.recordEnd]
@[simp] theorem State.recordEnd_store (g : Group) (e : StopRecord) : (s.recordEnd g e).store = s.store := by simp [State.recordEnd]
@[simp] theorem State.recordEnd_pending (g : Group) (e : StopRecord) : (s.recordEnd g e).pending = s.pending := by simp [State.recordEnd]

/-! ## dropSupply -/

@[simp] theorem State.dropSupply_power (g : Group) : (s.dropSupply g).power = s.power := by unfold State.dropSupply; split <;> rfl
@[simp] theorem State.dropSupply_straps (g : Group) : (s.dropSupply g).straps = s.straps := by unfold State.dropSupply; split <;> rfl
@[simp] theorem State.dropSupply_clock (g : Group) : (s.dropSupply g).clock = s.clock := by unfold State.dropSupply; split <;> rfl
@[simp] theorem State.dropSupply_fe (g : Group) : (s.dropSupply g).fe = s.fe := by unfold State.dropSupply; split <;> rfl
@[simp] theorem State.dropSupply_inputs (g : Group) : (s.dropSupply g).inputs = s.inputs := by unfold State.dropSupply; split <;> rfl
@[simp] theorem State.dropSupply_jk (g : Group) : (s.dropSupply g).jk = s.jk := by unfold State.dropSupply; split <;> rfl
@[simp] theorem State.dropSupply_rooms (g : Group) : (s.dropSupply g).rooms = s.rooms := by unfold State.dropSupply; split <;> rfl
@[simp] theorem State.dropSupply_aw (g : Group) : (s.dropSupply g).aw = s.aw := by unfold State.dropSupply; split <;> rfl
@[simp] theorem State.dropSupply_wind (g : Group) : (s.dropSupply g).wind = s.wind := by unfold State.dropSupply; split <;> rfl
@[simp] theorem State.dropSupply_guard (g : Group) : (s.dropSupply g).guard = s.guard := by unfold State.dropSupply; split <;> rfl
@[simp] theorem State.dropSupply_ch (g : Group) : (s.dropSupply g).ch = s.ch := by unfold State.dropSupply; split <;> rfl
@[simp] theorem State.dropSupply_health (g : Group) : (s.dropSupply g).health = s.health := by unfold State.dropSupply; split <;> rfl
@[simp] theorem State.dropSupply_test (g : Group) : (s.dropSupply g).test = s.test := by unfold State.dropSupply; split <;> rfl
@[simp] theorem State.dropSupply_sa (g : Group) : (s.dropSupply g).sa = s.sa := by unfold State.dropSupply; split <;> rfl
@[simp] theorem State.dropSupply_link (g : Group) : (s.dropSupply g).link = s.link := by unfold State.dropSupply; split <;> rfl
@[simp] theorem State.dropSupply_store (g : Group) : (s.dropSupply g).store = s.store := by unfold State.dropSupply; split <;> rfl
@[simp] theorem State.dropSupply_pending (g : Group) : (s.dropSupply g).pending = s.pending := by unfold State.dropSupply; split <;> rfl

/-! ## grantHead -/

@[simp] theorem State.grantHead_power (e : Waiting) (l : List Waiting) : (s.grantHead e l).power = s.power := rfl
@[simp] theorem State.grantHead_straps (e : Waiting) (l : List Waiting) : (s.grantHead e l).straps = s.straps := rfl
@[simp] theorem State.grantHead_clock (e : Waiting) (l : List Waiting) : (s.grantHead e l).clock = s.clock := rfl
@[simp] theorem State.grantHead_fe (e : Waiting) (l : List Waiting) : (s.grantHead e l).fe = s.fe := rfl
@[simp] theorem State.grantHead_inputs (e : Waiting) (l : List Waiting) : (s.grantHead e l).inputs = s.inputs := rfl
@[simp] theorem State.grantHead_jk (e : Waiting) (l : List Waiting) : (s.grantHead e l).jk = s.jk := rfl
@[simp] theorem State.grantHead_rooms (e : Waiting) (l : List Waiting) : (s.grantHead e l).rooms = s.rooms := rfl
@[simp] theorem State.grantHead_aw (e : Waiting) (l : List Waiting) : (s.grantHead e l).aw = s.aw := rfl
@[simp] theorem State.grantHead_wind (e : Waiting) (l : List Waiting) : (s.grantHead e l).wind = s.wind := rfl
@[simp] theorem State.grantHead_guard (e : Waiting) (l : List Waiting) : (s.grantHead e l).guard = s.guard := rfl
@[simp] theorem State.grantHead_ch (e : Waiting) (l : List Waiting) : (s.grantHead e l).ch = s.ch := rfl
@[simp] theorem State.grantHead_health (e : Waiting) (l : List Waiting) : (s.grantHead e l).health = s.health := rfl
@[simp] theorem State.grantHead_test (e : Waiting) (l : List Waiting) : (s.grantHead e l).test = s.test := rfl
@[simp] theorem State.grantHead_sa (e : Waiting) (l : List Waiting) : (s.grantHead e l).sa = s.sa := rfl
@[simp] theorem State.grantHead_link (e : Waiting) (l : List Waiting) : (s.grantHead e l).link = s.link := rfl
@[simp] theorem State.grantHead_store (e : Waiting) (l : List Waiting) : (s.grantHead e l).store = s.store := rfl
@[simp] theorem State.grantHead_pending (e : Waiting) (l : List Waiting) : (s.grantHead e l).pending = s.pending := rfl

/-! ## roomOff -/

@[simp] theorem State.roomOff_power (r : RoomId) : (s.roomOff r).power = s.power := rfl
@[simp] theorem State.roomOff_straps (r : RoomId) : (s.roomOff r).straps = s.straps := rfl
@[simp] theorem State.roomOff_clock (r : RoomId) : (s.roomOff r).clock = s.clock := rfl
@[simp] theorem State.roomOff_fe (r : RoomId) : (s.roomOff r).fe = s.fe := rfl
@[simp] theorem State.roomOff_inputs (r : RoomId) : (s.roomOff r).inputs = s.inputs := rfl
@[simp] theorem State.roomOff_jk (r : RoomId) : (s.roomOff r).jk = s.jk := rfl
@[simp] theorem State.roomOff_rooms (r : RoomId) : (s.roomOff r).rooms = s.rooms := rfl
@[simp] theorem State.roomOff_aw (r : RoomId) : (s.roomOff r).aw = s.aw := rfl
@[simp] theorem State.roomOff_wind (r : RoomId) : (s.roomOff r).wind = s.wind := rfl
@[simp] theorem State.roomOff_arb (r : RoomId) : (s.roomOff r).arb = s.arb := rfl
@[simp] theorem State.roomOff_guard (r : RoomId) : (s.roomOff r).guard = s.guard := rfl
@[simp] theorem State.roomOff_health (r : RoomId) : (s.roomOff r).health = s.health := rfl
@[simp] theorem State.roomOff_test (r : RoomId) : (s.roomOff r).test = s.test := rfl
@[simp] theorem State.roomOff_sa (r : RoomId) : (s.roomOff r).sa = s.sa := rfl
@[simp] theorem State.roomOff_link (r : RoomId) : (s.roomOff r).link = s.link := rfl
@[simp] theorem State.roomOff_store (r : RoomId) : (s.roomOff r).store = s.store := rfl
@[simp] theorem State.roomOff_pending (r : RoomId) : (s.roomOff r).pending = s.pending := rfl

/-! ## pumpFollow -/

@[simp] theorem State.pumpFollow_power : s.pumpFollow.power = s.power := by unfold State.pumpFollow; split <;> (try split) <;> rfl
@[simp] theorem State.pumpFollow_straps : s.pumpFollow.straps = s.straps := by unfold State.pumpFollow; split <;> (try split) <;> rfl
@[simp] theorem State.pumpFollow_clock : s.pumpFollow.clock = s.clock := by unfold State.pumpFollow; split <;> (try split) <;> rfl
@[simp] theorem State.pumpFollow_fe : s.pumpFollow.fe = s.fe := by unfold State.pumpFollow; split <;> (try split) <;> rfl
@[simp] theorem State.pumpFollow_inputs : s.pumpFollow.inputs = s.inputs := by unfold State.pumpFollow; split <;> (try split) <;> rfl
@[simp] theorem State.pumpFollow_jk : s.pumpFollow.jk = s.jk := by unfold State.pumpFollow; split <;> (try split) <;> rfl
@[simp] theorem State.pumpFollow_rooms : s.pumpFollow.rooms = s.rooms := by unfold State.pumpFollow; split <;> (try split) <;> rfl
@[simp] theorem State.pumpFollow_aw : s.pumpFollow.aw = s.aw := by unfold State.pumpFollow; split <;> (try split) <;> rfl
@[simp] theorem State.pumpFollow_wind : s.pumpFollow.wind = s.wind := by unfold State.pumpFollow; split <;> (try split) <;> rfl
@[simp] theorem State.pumpFollow_arb : s.pumpFollow.arb = s.arb := by unfold State.pumpFollow; split <;> (try split) <;> rfl
@[simp] theorem State.pumpFollow_guard : s.pumpFollow.guard = s.guard := by unfold State.pumpFollow; split <;> (try split) <;> rfl
@[simp] theorem State.pumpFollow_health : s.pumpFollow.health = s.health := by unfold State.pumpFollow; split <;> (try split) <;> rfl
@[simp] theorem State.pumpFollow_test : s.pumpFollow.test = s.test := by unfold State.pumpFollow; split <;> (try split) <;> rfl
@[simp] theorem State.pumpFollow_sa : s.pumpFollow.sa = s.sa := by unfold State.pumpFollow; split <;> (try split) <;> rfl
@[simp] theorem State.pumpFollow_link : s.pumpFollow.link = s.link := by unfold State.pumpFollow; split <;> (try split) <;> rfl
@[simp] theorem State.pumpFollow_store : s.pumpFollow.store = s.store := by unfold State.pumpFollow; split <;> (try split) <;> rfl
@[simp] theorem State.pumpFollow_pending : s.pumpFollow.pending = s.pending := by unfold State.pumpFollow; split <;> (try split) <;> rfl

/-! ## openValve -/

@[simp] theorem State.openValve_power (j : JackId) (d : ChanDir) : (s.openValve j d).power = s.power := by simp [State.openValve]
@[simp] theorem State.openValve_straps (j : JackId) (d : ChanDir) : (s.openValve j d).straps = s.straps := by simp [State.openValve]
@[simp] theorem State.openValve_clock (j : JackId) (d : ChanDir) : (s.openValve j d).clock = s.clock := by simp [State.openValve]
@[simp] theorem State.openValve_fe (j : JackId) (d : ChanDir) : (s.openValve j d).fe = s.fe := by simp [State.openValve]
@[simp] theorem State.openValve_inputs (j : JackId) (d : ChanDir) : (s.openValve j d).inputs = s.inputs := by simp [State.openValve]
@[simp] theorem State.openValve_jk (j : JackId) (d : ChanDir) : (s.openValve j d).jk = s.jk := by simp [State.openValve]
@[simp] theorem State.openValve_rooms (j : JackId) (d : ChanDir) : (s.openValve j d).rooms = s.rooms := by simp [State.openValve]
@[simp] theorem State.openValve_aw (j : JackId) (d : ChanDir) : (s.openValve j d).aw = s.aw := by simp [State.openValve]
@[simp] theorem State.openValve_wind (j : JackId) (d : ChanDir) : (s.openValve j d).wind = s.wind := by simp [State.openValve]
@[simp] theorem State.openValve_arb (j : JackId) (d : ChanDir) : (s.openValve j d).arb = s.arb := by simp [State.openValve]
@[simp] theorem State.openValve_guard (j : JackId) (d : ChanDir) : (s.openValve j d).guard = s.guard := by simp [State.openValve]
@[simp] theorem State.openValve_health (j : JackId) (d : ChanDir) : (s.openValve j d).health = s.health := by simp [State.openValve]
@[simp] theorem State.openValve_test (j : JackId) (d : ChanDir) : (s.openValve j d).test = s.test := by simp [State.openValve]
@[simp] theorem State.openValve_sa (j : JackId) (d : ChanDir) : (s.openValve j d).sa = s.sa := by simp [State.openValve]
@[simp] theorem State.openValve_link (j : JackId) (d : ChanDir) : (s.openValve j d).link = s.link := by simp [State.openValve]
@[simp] theorem State.openValve_store (j : JackId) (d : ChanDir) : (s.openValve j d).store = s.store := by simp [State.openValve]
@[simp] theorem State.openValve_pending (j : JackId) (d : ChanDir) : (s.openValve j d).pending = s.pending := by simp [State.openValve]

/-! ## closeValve -/

@[simp] theorem State.closeValve_power (j : JackId) : (s.closeValve j).power = s.power := by simp [State.closeValve]
@[simp] theorem State.closeValve_straps (j : JackId) : (s.closeValve j).straps = s.straps := by simp [State.closeValve]
@[simp] theorem State.closeValve_clock (j : JackId) : (s.closeValve j).clock = s.clock := by simp [State.closeValve]
@[simp] theorem State.closeValve_fe (j : JackId) : (s.closeValve j).fe = s.fe := by simp [State.closeValve]
@[simp] theorem State.closeValve_inputs (j : JackId) : (s.closeValve j).inputs = s.inputs := by simp [State.closeValve]
@[simp] theorem State.closeValve_jk (j : JackId) : (s.closeValve j).jk = s.jk := by simp [State.closeValve]
@[simp] theorem State.closeValve_rooms (j : JackId) : (s.closeValve j).rooms = s.rooms := by simp [State.closeValve]
@[simp] theorem State.closeValve_aw (j : JackId) : (s.closeValve j).aw = s.aw := by simp [State.closeValve]
@[simp] theorem State.closeValve_wind (j : JackId) : (s.closeValve j).wind = s.wind := by simp [State.closeValve]
@[simp] theorem State.closeValve_arb (j : JackId) : (s.closeValve j).arb = s.arb := by simp [State.closeValve]
@[simp] theorem State.closeValve_guard (j : JackId) : (s.closeValve j).guard = s.guard := by simp [State.closeValve]
@[simp] theorem State.closeValve_health (j : JackId) : (s.closeValve j).health = s.health := by simp [State.closeValve]
@[simp] theorem State.closeValve_test (j : JackId) : (s.closeValve j).test = s.test := by simp [State.closeValve]
@[simp] theorem State.closeValve_sa (j : JackId) : (s.closeValve j).sa = s.sa := by simp [State.closeValve]
@[simp] theorem State.closeValve_link (j : JackId) : (s.closeValve j).link = s.link := by simp [State.closeValve]
@[simp] theorem State.closeValve_store (j : JackId) : (s.closeValve j).store = s.store := by simp [State.closeValve]
@[simp] theorem State.closeValve_pending (j : JackId) : (s.closeValve j).pending = s.pending := by simp [State.closeValve]

/-! ## closeValves -/

@[simp] theorem State.closeValves_power : s.closeValves.power = s.power := by simp [State.closeValves, JackId.all]
@[simp] theorem State.closeValves_straps : s.closeValves.straps = s.straps := by simp [State.closeValves, JackId.all]
@[simp] theorem State.closeValves_clock : s.closeValves.clock = s.clock := by simp [State.closeValves, JackId.all]
@[simp] theorem State.closeValves_fe : s.closeValves.fe = s.fe := by simp [State.closeValves, JackId.all]
@[simp] theorem State.closeValves_inputs : s.closeValves.inputs = s.inputs := by simp [State.closeValves, JackId.all]
@[simp] theorem State.closeValves_jk : s.closeValves.jk = s.jk := by simp [State.closeValves, JackId.all]
@[simp] theorem State.closeValves_rooms : s.closeValves.rooms = s.rooms := by simp [State.closeValves, JackId.all]
@[simp] theorem State.closeValves_aw : s.closeValves.aw = s.aw := by simp [State.closeValves, JackId.all]
@[simp] theorem State.closeValves_wind : s.closeValves.wind = s.wind := by simp [State.closeValves, JackId.all]
@[simp] theorem State.closeValves_arb : s.closeValves.arb = s.arb := by simp [State.closeValves, JackId.all]
@[simp] theorem State.closeValves_guard : s.closeValves.guard = s.guard := by simp [State.closeValves, JackId.all]
@[simp] theorem State.closeValves_health : s.closeValves.health = s.health := by simp [State.closeValves, JackId.all]
@[simp] theorem State.closeValves_test : s.closeValves.test = s.test := by simp [State.closeValves, JackId.all]
@[simp] theorem State.closeValves_sa : s.closeValves.sa = s.sa := by simp [State.closeValves, JackId.all]
@[simp] theorem State.closeValves_link : s.closeValves.link = s.link := by simp [State.closeValves, JackId.all]
@[simp] theorem State.closeValves_store : s.closeValves.store = s.store := by simp [State.closeValves, JackId.all]
@[simp] theorem State.closeValves_pending : s.closeValves.pending = s.pending := by simp [State.closeValves, JackId.all]

/-! ## popped -/

@[simp] theorem State.popped_power : s.popped.power = s.power := rfl
@[simp] theorem State.popped_straps : s.popped.straps = s.straps := rfl
@[simp] theorem State.popped_clock : s.popped.clock = s.clock := rfl
@[simp] theorem State.popped_fe : s.popped.fe = s.fe := rfl
@[simp] theorem State.popped_inputs : s.popped.inputs = s.inputs := rfl
@[simp] theorem State.popped_jk : s.popped.jk = s.jk := rfl
@[simp] theorem State.popped_rooms : s.popped.rooms = s.rooms := rfl
@[simp] theorem State.popped_aw : s.popped.aw = s.aw := rfl
@[simp] theorem State.popped_wind : s.popped.wind = s.wind := rfl
@[simp] theorem State.popped_arb : s.popped.arb = s.arb := rfl
@[simp] theorem State.popped_guard : s.popped.guard = s.guard := rfl
@[simp] theorem State.popped_ch : s.popped.ch = s.ch := rfl
@[simp] theorem State.popped_health : s.popped.health = s.health := rfl
@[simp] theorem State.popped_test : s.popped.test = s.test := rfl
@[simp] theorem State.popped_sa : s.popped.sa = s.sa := rfl
@[simp] theorem State.popped_link : s.popped.link = s.link := rfl
@[simp] theorem State.popped_store : s.popped.store = s.store := rfl

/-! ## What the updates write -/

@[simp] theorem State.room_setRoom_same (r : RoomId) (x : Room) : (s.setRoom r x).room r = x := by
  simp [State.room, State.setRoom]

theorem State.room_setRoom_other (r q : RoomId) (x : Room) (h : q ≠ r) : (s.setRoom r x).room q = s.room q := by
  simp [State.room, State.setRoom, PerRoom.get_set_other _ _ _ _ h]

@[simp] theorem State.chan_setChan_same (c : ChannelId) (x : Channel) : (s.setChan c x).chan c = x := by
  simp [State.chan, State.setChan]

theorem State.chan_setChan_other (c k : ChannelId) (x : Channel) (h : k ≠ c) : (s.setChan c x).chan k = s.chan k := by
  simp [State.chan, State.setChan, PerChannel.get_set_other _ _ _ _ h]

@[simp] theorem State.sense_setSense_same (r : RoomId) (x : RoomSense) : (s.setSense r x).sense r = x := by
  simp [State.sense, State.setSense]

theorem State.sense_setSense_other (r q : RoomId) (x : RoomSense) (h : q ≠ r) :
    (s.setSense r x).sense q = s.sense q := by
  simp [State.sense, State.setSense, PerRoom.get_set_other _ _ _ _ h]

@[simp] theorem State.modAw_aw (f : Awning → Awning) : (s.modAw f).aw = f s.aw := rfl
@[simp] theorem State.modArb_arb (f : Arbiter → Arbiter) : (s.modArb f).arb = f s.arb := rfl
@[simp] theorem State.setClock_clock (c : Clock) : (s.setClock c).clock = c := rfl
@[simp] theorem State.setInputs_inputs (i : Inputs) : (s.setInputs i).inputs = i := rfl
@[simp] theorem State.putReply_slot (f : SentFrame) : (s.putReply f).link.slot = some f := rfl
@[simp] theorem State.putReply_tx (f : SentFrame) : (s.putReply f).link.tx = s.link.tx := rfl
@[simp] theorem State.startStore_job (j : StoreJob) : (s.startStore j).store.job = some (j, storeMs) := rfl

theorem State.off_chan_same (c : ChannelId) : (s.off c).chan c = (s.chan c).turnedOff := by simp [State.off]

theorem State.off_chan_other (c k : ChannelId) (h : k ≠ c) : (s.off c).chan k = s.chan k :=
  State.chan_setChan_other _ _ _ _ h

theorem State.drive_chan_same (c : ChannelId) (d : ChanDir) (n : Int) :
    (s.drive c d n).chan c = (s.chan c).commanded d n := by simp [State.drive]

theorem State.drive_chan_other (c k : ChannelId) (d : ChanDir) (n : Int) (h : k ≠ c) :
    (s.drive c d n).chan k = s.chan k :=
  State.chan_setChan_other _ _ _ _ h

/-! ## Intervals at the first set of a waking (R183) -/

@[simp] theorem Clock.atWakeSet_sample (c : Clock) : c.atWakeSet.sample = 20 := rfl
@[simp] theorem Clock.atWakeSet_input (c : Clock) : c.atWakeSet.input = c.input := rfl
@[simp] theorem Clock.atWakeSet_reading (c : Clock) : c.atWakeSet.reading = 5 := rfl
@[simp] theorem Clock.atWakeSet_wind (c : Clock) : c.atWakeSet.wind = 230 := rfl

/-! ## Contacts -/

theorem Contact.reads_few (c : Contact) (h : c.run < 2) : c.reads = c.made := by simp [Contact.reads, h]

theorem Contact.reads_two (c : Contact) (h : 2 ≤ c.run) : c.reads = !c.made := by
  simp [Contact.reads, Nat.not_lt.mpr h]

@[simp] theorem Contact.reads_changed (b : Bool) : (Contact.changed b).reads = b := rfl
@[simp] theorem Contact.reads_fresh (b : Bool) : ({ made := b, run := 0 } : Contact).reads = b := rfl

/-- A change is owed to the controllers exactly when the contact reads what they were not told (R10). -/
theorem Contact.changes_iff (c : Contact) (b : Bool) : c.changes b = true ↔ c.reads = b ∧ c.made ≠ b := by
  unfold Contact.changes Contact.reads
  rcases c with ⟨m, n⟩
  by_cases h : n < 2
  · cases m <;> cases b <;> simp [h, Nat.not_le.mpr h]
  · cases m <;> cases b <;> simp [h, Nat.not_lt.mp h]

/-! ## Telling a change (R10, notes 3): a controller that knows the state of its switch is told nothing -/

variable {s : State}

theorem State.tellInStop_known (r : RoomId) (d : Drive) (b : Bool) (h : ((s.sense r).inStop d).changes b = false) :
    s.tellInStop r d b = s := by simp [State.tellInStop, h]

theorem State.tellPin_known (r : RoomId) (p : PinState) (h : (s.sense r).pinChanges p = false) : s.tellPin r p = s := by
  simp [State.tellPin, h]

theorem State.tellStowed_known (b : Bool) (h : s.fe.stowed.changes b = false) : s.tellStowed b = s := by
  simp [State.tellStowed, h]

/-- And otherwise the change takes its effect, and what it ends owes a walk. -/
theorem State.tellInStop_owed (r : RoomId) (d : Drive) (b : Bool) (hr : s.straps.hasRoom r = true)
    (h : ((s.sense r).inStop d).changes b = true) : s.tellInStop r d b = s.settled (s.inStop r d b) := by
  simp [State.tellInStop, hr, h]

theorem State.tellPin_owed (r : RoomId) (p : PinState) (hr : s.straps.hasRoom r = true)
    (h : (s.sense r).pinChanges p = true) : s.tellPin r p = s.settled (s.pinChange r p) := by simp [State.tellPin, hr, h]

theorem State.tellStowed_owed (b : Bool) (ha : s.straps.awning = true) (h : s.fe.stowed.changes b = true) :
    s.tellStowed b = s.settled (if b then s.stowedMade else s.stowedOpen) := by simp [State.tellStowed, ha, h]

end Sys2Proof.Machine
end

