-- ==== Sys2Proof/Laws/Supply.lean ====
section
/-!
SUPPORT. The arbiter, said once: a walk of an empty list, a request that fits and one that has to wait, an end that owes no
walk, a budget that needs no victim, and the sum of the draws.
-/

namespace Sys2Proof.Machine

open Sys2Proof

/-! ## The walk (R107, R112) -/

theorem State.walk_nil (s : State) (h : s.arb.waiting = []) : s.walk = s := by simp [State.walk, State.walkFuel, h]

/-- The walk stops at a head that does not fit (R107). -/
theorem State.walk_stops (s : State) (e : Waiting) (rest : List Waiting) (h : s.arb.waiting = e :: rest)
    (b : s.budget < s.grantSum + e.draw) : s.walk = s := by
  simp [State.walk, State.walkFuel, h, Nat.not_le.mpr b]

theorem State.walkAfter_nil (s t : State) (h : t.arb.waiting = []) : s.walkAfter t = t := by
  simp [State.walkAfter, State.walk_nil t h]

/-- No walk is owed where no entry has left the collections (R112). -/
theorem State.walkAfter_kept (s t : State) (h : s.entryCount ≤ t.entryCount) : s.walkAfter t = t := by
  simp [State.walkAfter, Nat.not_lt.mpr h]

theorem State.settled_nil (s t : State) (h : t.arb.waiting = []) : s.settled t = t.restance := by
  rw [State.settled, State.walkAfter_nil s t h]

theorem State.settled_kept (s t : State) (h : s.entryCount ≤ t.entryCount) : s.settled t = t.restance := by
  rw [State.settled, State.walkAfter_kept s t h]

/-! ## Requests (R106) -/

@[simp] theorem placeWaiting_nil (e : Waiting) : placeWaiting e [] = [e] := rfl

theorem placeWaiting_length (e : Waiting) (l : List Waiting) : (placeWaiting e l).length = l.length + 1 := by
  induction l with
  | nil => rfl
  | cons x xs ih =>
    simp only [placeWaiting]
    split <;> simp [ih]

theorem mem_placeWaiting (e x : Waiting) (l : List Waiting) : x ∈ placeWaiting e l ↔ x = e ∨ x ∈ l := by
  induction l with
  | nil => simp
  | cons y ys ih =>
    simp only [placeWaiting]
    split <;> simp [ih, or_left_comm]

/-- A request that fits behind an empty list is granted in the same event (R106, R107). -/
theorem State.requestSupply_fits (s : State) (g : Group) (c : SupplyClass) (n : Nat) (h : s.fits n) :
    s.requestSupply g c n =
      (({ s with arb := { s.arb with waiting := [], grants := s.arb.grants ++ [{ holder := g, cls := c, draw := n }] } } :
        State).notifyGrant { holder := g, cls := c, draw := n, before := false }) := by
  obtain ⟨w, b⟩ := h
  have b' : sumDraws s.arb.grants + n ≤ budgetOf s.arb.base s.arb.level := b
  simp [State.requestSupply, State.walk, State.walkFuel, State.grantHead, State.grantSum, State.budget, w, b']

/-- A request that does not fit waits (R106). -/
theorem State.requestSupply_waits (s : State) (g : Group) (c : SupplyClass) (n : Nat) (h : s.mustWait n) :
    s.requestSupply g c n =
      { s with arb := { s.arb with waiting := [{ holder := g, cls := c, draw := n, before := false }] } } := by
  obtain ⟨w, b⟩ := h
  have b' : ¬ sumDraws s.arb.grants + n ≤ budgetOf s.arb.base s.arb.level := Nat.not_le.mpr b
  simp [State.requestSupply, State.walk, State.walkFuel, State.grantSum, State.budget, w, b']

/-! ## Ends -/

/-- A holder that stands in neither collection drops nothing (R112, R113). -/
theorem State.dropSupply_none (s : State) (g : Group) (h : s.holds g = false) (w : s.waits g = false) :
    s.dropSupply g = s := by simp [State.dropSupply, h, w]

theorem sumDraws_filter_le (p : Grant → Bool) (l : List Grant) : sumDraws (l.filter p) ≤ sumDraws l := by
  induction l with
  | nil => simp
  | cons e es ih =>
    simp only [sumDraws] at *
    rw [List.filter_cons]
    split <;> simp <;> omega

theorem sumDraws_append (l m : List Grant) : sumDraws (l ++ m) = sumDraws l + sumDraws m := by simp [sumDraws]

/-- An end never raises the sum of the draws (R112). -/
theorem State.grantSum_dropSupply_le (s : State) (g : Group) : (s.dropSupply g).grantSum ≤ s.grantSum := by
  unfold State.dropSupply State.grantSum Arbiter.sagIfEmpty
  split
  · dsimp only
    split <;> exact sumDraws_filter_le _ _
  · exact Nat.le_refl _

/-- Who ended holds nothing and waits for nothing. -/
theorem State.dropSupply_gone (s : State) (g : Group) :
    (s.dropSupply g).holds g = false ∧ (s.dropSupply g).waits g = false := by
  unfold State.dropSupply
  split
  · simp only [State.holds, State.waits, Arbiter.sagIfEmpty]
    constructor <;> split <;> simp
  · simp_all

/-! ## The budget (R98, R111) -/

/-- The least budget there is (R98). -/
theorem le_budgetOf (base level : Nat) : 40 ≤ budgetOf base level := Nat.le_max_left _ _

theorem State.suspendUntil_fits (s : State) (need n : Nat) (h : s.grantSum + need ≤ s.budget) :
    s.suspendUntil need n = s := by cases n <;> simp [State.suspendUntil, h]

/-- A change of the budget above the sum, with nobody waiting, moves nobody (R111). -/
theorem State.budgetChanged_fits (s : State) (old : Nat) (w : s.arb.waiting = []) (h : s.grantSum ≤ s.budget) :
    s.budgetChanged old = s := by
  unfold State.budgetChanged
  split
  · exact State.walk_nil s w
  · exact State.suspendUntil_fits s 0 _ (by simpa using h)

/-- No victim is a STOW (R109). -/
theorem victimOf_not_stow (l : List Grant) : ∀ v, victimOf l = some v → v.cls ≠ .stow := by
  induction l with
  | nil => intro v h; cases h
  | cons e es ih =>
    intro v h
    simp only [victimOf] at h
    split at h
    · rename_i u hu
      split at h
      · rename_i lt
        cases h
        intro c
        rw [c] at lt
        exact absurd lt (Nat.not_lt_zero _)
      · cases h; exact ih _ hu
    · split at h
      · cases h
      · cases h; assumption

/-- A victim is one of the holders. -/
theorem victimOf_mem (l : List Grant) : ∀ v, victimOf l = some v → v ∈ l := by
  induction l with
  | nil => intro v h; cases h
  | cons e es ih =>
    intro v h
    simp only [victimOf] at h
    split at h
    · rename_i u hu
      split at h <;> cases h
      · exact List.mem_cons_self
      · exact List.mem_cons_of_mem _ (ih _ hu)
    · split at h <;> cases h
      exact List.mem_cons_self

end Sys2Proof.Machine
end

