-- ==== Sys2Proof/Laws/Ends.lean ====
section
/-!
SUPPORT. The end of an operation, said once for a room and for the awning: every channel of the group OFF and no other
touched, its entry gone from the arbiter, its record written, the other groups as they were but for the drift timer that a
room's end starts.
-/

namespace Sys2Proof.Machine

open Sys2Proof

theorem Channel.turnedOff_mode (c : Channel) : c.turnedOff.mode = .off := rfl

@[simp] theorem Channel.turnedOff_isDriven (c : Channel) : c.turnedOff.isDriven = false := rfl

@[simp] theorem Channel.underTest_mode (x : Channel) (c : ChannelId) :
    (x.underTest c).mode = .testing .first c.testCurrent := rfl
@[simp] theorem Channel.underTest_isDriven (x : Channel) (c : ChannelId) : (x.underTest c).isDriven = false := rfl

/-- The channels after a room's are turned OFF. -/
theorem State.roomOff_chan (s : State) (r : RoomId) (c : ChannelId) :
    (s.roomOff r).chan c = if c.owner = .room r then (s.chan c).turnedOff else s.chan c := by
  rcases c with _ | j | ⟨q, d⟩ | q | _
  · simp [State.roomOff, State.off_chan_other, ChannelId.owner]
  · simp [State.roomOff, State.off_chan_other, ChannelId.owner]
  · by_cases h : q = r
    · subst h
      cases d <;> simp [State.roomOff, State.off_chan_other, State.off_chan_same, ChannelId.owner]
    · simp [State.roomOff, State.off_chan_other, ChannelId.owner, h]
  · by_cases h : q = r
    · subst h; simp [State.roomOff, State.off_chan_same, State.off_chan_other, ChannelId.owner]
    · simp [State.roomOff, State.off_chan_other, ChannelId.owner, h]
  · simp [State.roomOff, State.off_chan_other, ChannelId.owner]

/-- A group that joins: the attention set and the notice flag, and nothing else; a present group is in the set (R156). -/
theorem State.joinGroup_spec (s : State) (g : Group) :
    ∃ (sa : StanceAttention) (b : Bool), s.joinGroup g = { s with sa := sa, link := { s.link with notice := b } }
      ∧ sa.records = s.sa.records ∧ (s.straps.hasGroup g = true → sa.groups.get g = true) := by
  unfold State.joinGroup
  split
  · rename_i c
    refine ⟨s.sa, s.link.notice, rfl, rfl, fun h => ?_⟩
    simpa [h] using c
  · exact ⟨_, true, rfl, rfl, fun _ => PerGroup.get_set_same _ _ _⟩

/-- An end handed on: the record, the stance, the attention set and the notice flag, and nothing else (R162). -/
theorem State.recordEnd_spec (s : State) (g : Group) (e : StopRecord) :
    ∃ (sa : StanceAttention) (b : Bool), s.recordEnd g e = { s with sa := sa, link := { s.link with notice := b } }
      ∧ sa.records = s.sa.records.set g (some e) ∧ (s.straps.hasGroup g = true → sa.groups.get g = true) := by
  obtain ⟨sa, b, eq, records, joined⟩ := State.joinGroup_spec
    ({ s with sa := { s.sa with records := s.sa.records.set g (some e) } } : State).restance g
  exact ⟨sa, b, eq, records, joined⟩

/-- What a channel does has no part in what an end takes from the arbiter. -/
theorem State.dropSupply_off_arb (s : State) (c : ChannelId) (g : Group) : ((s.off c).dropSupply g).arb = (s.dropSupply g).arb := by
  simp only [State.dropSupply]
  by_cases h : (s.holds g || s.waits g) = true
  · rw [if_pos h, if_pos (show ((s.off c).holds g || (s.off c).waits g) = true from h)]; rfl
  · rw [if_neg h, if_neg (show ¬ ((s.off c).holds g || (s.off c).waits g) = true from h)]; rfl

/-- The end of an awning operation (R87). -/
theorem State.finishAwning_spec (s : State) (reason : Reason) (known : Bool) (p : EndPosition)
    (h : s.aw.st.work? ≠ none) :
    ∃ t, s.finishAwning reason known p = t ∧ t.aw = s.aw.ended known p ∧ t.holds .awning = false ∧ t.waits .awning = false
      ∧ t.arb = (s.dropSupply .awning).arb ∧ t.chan .awning = (s.chan .awning).turnedOff
      ∧ (∀ c, c ≠ .awning → t.chan c = s.chan c) ∧ t.jk = s.jk ∧ t.rooms = s.rooms ∧ t.fe = s.fe ∧ t.guard = s.guard
      ∧ t.sa.records = s.sa.records.set .awning
          (some { op := s.aw.op.operation, reason := reason, positions := .awning s.fe.awningCount.live
                  runMs := s.aw.runMs, peak := (s.chan .awning).peak / 100 })
      ∧ (s.straps.awning = true → t.sa.groups.get .awning = true) := by
  unfold State.finishAwning
  split
  · exact absurd ‹_› h
  · obtain ⟨sa, b, eq, records, joined⟩ := State.recordEnd_spec
      { (s.off .awning).dropSupply .awning with aw := ((s.off .awning).dropSupply .awning).aw.ended known p } .awning
      { op := s.aw.op.operation, reason := reason, positions := .awning s.fe.awningCount.live, runMs := s.aw.runMs
        peak := (s.chan .awning).peak / 100 }
    have gone := State.dropSupply_gone (s.off .awning) .awning
    refine ⟨_, eq, by simp, gone.1, gone.2, State.dropSupply_off_arb s .awning .awning, ?_, fun c hc => ?_, by simp, by simp,
      by simp, by simp, ?_, ?_⟩
    · show ((s.off .awning).dropSupply .awning).chan .awning = _
      simp only [State.chan, State.dropSupply_ch]
      exact State.off_chan_same _ _
    · show ((s.off .awning).dropSupply .awning).chan c = _
      simp only [State.chan, State.dropSupply_ch]
      exact State.off_chan_other _ _ _ hc
    · simpa using records
    · intro present
      exact joined (by simpa [Straps.hasGroup] using present)

/-- The drift timer that a room's end starts is all it changes (R43). -/
theorem State.roomEnded_spec (s : State) : ∃ j : Levelling, s.roomEnded = { s with jk := j }
    ∧ j = (if s.jk.st = .idle .levelled then
      { s.jk with driftLeft := some s.jk.cap.level.settleMs.toNat, driftWait := false } else s.jk) := by
  unfold State.roomEnded
  split
  · exact ⟨_, rfl, rfl⟩
  · exact ⟨s.jk, rfl, rfl⟩

/-- The end of a room operation (R74, R75). -/
theorem State.finishRoom_spec (s : State) (r : RoomId) (reason : Reason) (known : Bool) (p : EndPosition)
    (h : (s.room r).st.work? ≠ none) :
    ∃ t, s.finishRoom r reason known p = t ∧ t.room r = (s.room r).ended known p ∧ (∀ q, q ≠ r → t.room q = s.room q)
      ∧ t.holds (.room r) = false ∧ t.waits (.room r) = false ∧ t.arb = (s.dropSupply (.room r)).arb
      ∧ (∀ c, t.chan c = if c.owner = .room r then (s.chan c).turnedOff else s.chan c) ∧ t.aw = s.aw ∧ t.fe = s.fe
      ∧ t.guard = { s.guard with roomWork := s.guard.roomWork.set r false }
      ∧ t.jk = (if s.jk.st = .idle .levelled then
          { s.jk with driftLeft := some s.jk.cap.level.settleMs.toNat, driftWait := false } else s.jk)
      ∧ t.sa.records = s.sa.records.set (.room r)
          (some { op := if (s.room r).home then .home else .move, reason := reason, positions := s.roomPositions r
                  runMs := (s.room r).runMs, peak := s.roomPeak r })
      ∧ (s.straps.hasRoom r = true → t.sa.groups.get (.room r) = true) := by
  unfold State.finishRoom
  split
  · exact absurd ‹_› h
  · obtain ⟨sa, b, eq, records, joined⟩ := State.recordEnd_spec
      ((((s.roomOff r).dropSupply (.room r)).giveUp (.room r)).setRoom r ((s.room r).ended known p)) (.room r)
      { op := if (s.room r).home then .home else .move, reason := reason, positions := s.roomPositions r
        runMs := (s.room r).runMs, peak := s.roomPeak r }
    obtain ⟨j, ended, same⟩ := State.roomEnded_spec
      ((((s.roomOff r).dropSupply (.room r)).giveUp (.room r)).setRoom r ((s.room r).ended known p)
        |>.recordEnd (.room r) { op := if (s.room r).home then .home else .move, reason := reason
                                 positions := s.roomPositions r, runMs := (s.room r).runMs, peak := s.roomPeak r })
    have gone := State.dropSupply_gone (s.roomOff r) (.room r)
    have arb : ((s.roomOff r).dropSupply (.room r)).arb = (s.dropSupply (.room r)).arb := by
      unfold State.roomOff
      rw [State.dropSupply_off_arb, State.dropSupply_off_arb, State.dropSupply_off_arb]
    refine ⟨_, ended, ?_, fun q hq => ?_, ?_, ?_, ?_, fun c => ?_, ?_, ?_, ?_, ?_, ?_, ?_⟩
    · simp [State.room, State.setRoom]
    · simp [State.room, State.setRoom, PerRoom.get_set_other _ _ _ _ hq]
    · simpa [State.holds] using gone.1
    · simpa [State.waits] using gone.2
    · simp [arb]
    · rw [← State.roomOff_chan s r c]
      simp [State.chan]
    · simp
    · simp
    · simp [State.giveUp]
    · rw [same]; simp
    · rw [eq]; simpa using records
    · intro present
      rw [eq]
      exact joined (by simpa [Straps.hasGroup] using present)

/-- What driving the awning does: channel 19 driven towards the target, which is not outward with the brake released, or
with the brake released the end of a move whose target lies outward (R85, R119). -/
theorem State.driveAwning_cases (s : State) :
    (¬ (s.brakeReleased = true ∧ s.towardsTarget = .first)
        ∧ s.driveAwning = (s.drive .awning s.towardsTarget (if s.aw.op = .home then 50 else 100)).modAw
            fun a => { a with endPos := .unknown })
      ∨ (s.brakeReleased = true ∧ s.towardsTarget = .first ∧ s.driveAwning = s.endAwning .interlock) := by
  unfold State.driveAwning
  split
  · rename_i h
    exact .inr ⟨by simp_all, by simp_all, rfl⟩
  · rename_i h
    exact .inl ⟨fun k => h (by simp [k]), rfl⟩

end Sys2Proof.Machine
end

