-- ==== Sys2Proof/Laws/Guard.lean ====
section
/-!
SUPPORT. The checks of a motion request, said once: each check passes exactly when the condition it stands for holds.
-/

namespace Sys2Proof.Machine

open Sys2Proof

/-- No permit fails exactly when every permit that applies holds (R118). -/
theorem State.permitFailure_eq_none_iff (s : State) (g : Group) (extend : Bool) :
    s.permitFailure g extend = none ↔ s.permitsHold g extend := by
  unfold State.permitFailure State.permitsHold State.keyOn State.brakeReleased State.ignition
  cases hk : s.inputs.keyOff.level <;> simp
  cases hl : s.arb.lowVoltage <;> simp
  cases hf : s.frozen g <;> simp
  cases g <;> cases extend <;> cases hp : s.inputs.parkSet.level <;> simp
  cases s.inputs.ignition.level <;> cases s.wind.lockout <;> simp

theorem State.permitCheck_eq_none_iff (s : State) (g : Group) (extend : Bool) :
    s.permitCheck g extend = none ↔ s.permitsHold g extend := by
  simp [State.permitCheck, State.permitFailure_eq_none_iff]

/-- No channel is named exactly when all of them are usable (R147). -/
theorem State.channelCheck_eq_none_iff (s : State) (l : List ChannelId) :
    s.channelCheck l = none ↔ ∀ c ∈ l, s.usable c = true := by
  simp [State.channelCheck]

/-- The three checks of a drive pass exactly when the operation may drive. -/
theorem State.mayDrive_iff (s : State) (g : Group) (l : List ChannelId) (extend retract permit : Bool) :
    s.mayDrive g l extend retract permit ↔
      s.channelCheck l = none ∧ s.permitFailure g permit = none ∧ s.envelopeCheck g extend retract = none := by
  rw [State.mayDrive, State.channelCheck_eq_none_iff, State.permitFailure_eq_none_iff]

/-- The checks of a room, an awning and a JACKS operation pass together. -/
theorem State.roomClear_iff (s : State) (r : RoomId) (extend : Bool) :
    s.roomClear r extend ↔
      s.straps.hasRoom r = true ∧ (s.room r).st = .idle ∧ s.guard.jackWork = false
        ∧ s.channelCheck (roomChannels r) = none ∧ s.permitFailure (.room r) extend = none
        ∧ s.envelopeCheck (.room r) extend (!extend) = none := by
  rw [State.roomClear, State.mayDrive_iff]

theorem State.awningClear_iff (s : State) (extend : Bool) :
    s.awningClear extend ↔
      s.straps.awning = true ∧ s.aw.st = .idle ∧ s.channelCheck [.awning] = none
        ∧ s.permitFailure .awning extend = none ∧ s.envelopeCheck .awning extend (!extend) = none := by
  rw [State.awningClear, State.mayDrive_iff]

theorem State.jacksClear_iff (s : State) (channels : List ChannelId) (extend retract : Bool) :
    s.jacksClear channels extend retract ↔
      s.jk.st.isIdle = true ∧ s.anyJackFault = false ∧ s.guard.anyRoomWork = false
        ∧ s.channelCheck channels = none ∧ s.permitFailure .jacks true = none
        ∧ s.envelopeCheck .jacks extend retract = none := by
  rw [State.jacksClear, State.mayDrive_iff]

end Sys2Proof.Machine
end

