-- ==== Sys2Proof/Laws/Link.lean ====
section
/-!
SUPPORT. Replies, said once: what a request row answers on a part that is ready for it, and when the transmit path moves.
-/

namespace Sys2Proof.Machine

open Sys2Proof

theorem State.kick_sending (s : State) (f : SentFrame) (h : s.link.tx = some f) : s.kick = s := by simp [State.kick, h]

theorem State.kick_slot (s : State) (f : SentFrame) (h : s.link.tx = none) (h' : s.link.slot = some f) :
    s.kick = { s with link := { s.link with tx := some f, slot := none } } := by simp [State.kick, h, h']

theorem State.kick_idle (s : State) (h : s.link.tx = none) (h' : s.link.slot = none) (n : s.link.notice = false) :
    s.kick = s := by simp [State.kick, h, h', n]

theorem State.kick_notice (s : State) (h : s.link.tx = none) (h' : s.link.slot = none) (n : s.link.notice = true) :
    s.kick = { s with link := { s.link with tx := some s.noticeFrame, notice := false } } := by
  simp [State.kick, h, h', n]

/-- The transmit path touches nothing outside the link. -/
theorem State.kick_link (s : State) : ∃ l : Link, s.kick = { s with link := l } ∧ l.queue = s.link.queue
    ∧ l.framing = s.link.framing ∧ l.check = s.link.check ∧ l.overflow = s.link.overflow ∧ l.rx = s.link.rx
    ∧ l.ignitionSeen = s.link.ignitionSeen := by
  unfold State.kick
  split
  · exact ⟨s.link, rfl, rfl, rfl, rfl, rfl, rfl, rfl⟩
  · split
    · exact ⟨_, rfl, rfl, rfl, rfl, rfl, rfl, rfl⟩
    · split
      · exact ⟨_, rfl, rfl, rfl, rfl, rfl, rfl, rfl⟩
      · exact ⟨s.link, rfl, rfl, rfl, rfl, rfl, rfl, rfl⟩

theorem State.ifAwake_awake (s t : State) (h : s.power = .awake) : s.ifAwake t = .next t.kick := by
  simp [State.ifAwake, h]

theorem State.ifAwake_other (s t : State) (h : s.power ≠ .awake) : s.ifAwake t = .next s := by simp [State.ifAwake, h]

theorem State.ifOn_on (s t : State) (h : s.power ≠ .off) : s.ifOn t = .next t.kick := by simp [State.ifOn, h]

theorem State.ifOn_off (s t : State) (h : s.power = .off) : s.ifOn t = .next s := by simp [State.ifOn, h]

/-- A part that is ready takes any request. -/
theorem State.ready.mayTake {s : State} (h : s.ready) (q : Request) : s.mayTake q = true := by
  obtain ⟨p, slot, e⟩ := h
  simp [State.mayTake, State.canTake, p, slot, e]

/-- The reply of a request row on a part that is ready: the owner's answer to a well-formed request (R167, R170). -/
theorem State.ready.asked {s : State} (h : s.ready) (tag : Byte) (q : Request) (p : Answer × State) (w : q.wf = true) :
    s.asked tag q p = p.2.putReply (replyFrame (byteOf q.kind) tag p.1 (afterReply q p.1)) := by
  simp [State.asked, h.mayTake q, w, State.answered]

/-- A reply placed in an empty slot is sent at once or waits behind the frame being sent. -/
theorem State.kick_putReply (t : State) (f : SentFrame) : (t.putReply f).kick = t.replying f := by
  unfold State.kick State.putReply State.replying
  cases h : t.link.tx <;> simp

/-- A request row on a part that is ready is its owner's answer, replied. -/
theorem State.ready.answers {s : State} (h : s.ready) (tag : Byte) (q : Request) (p : Answer × State) (w : q.wf = true) :
    s.ifOn (s.asked tag q p) = .next (p.2.replying (replyFrame (byteOf q.kind) tag p.1 (afterReply q p.1))) := by
  rw [State.ifOn_on s _ (by rw [h.1]; decide), h.asked tag q p w, State.kick_putReply]

/-- A frame to send leaves everything but the link. -/
theorem State.replying_link (s : State) (f : SentFrame) : ∃ l : Link, s.replying f = { s with link := l } := by
  unfold State.replying
  split <;> exact ⟨_, rfl⟩

end Sys2Proof.Machine
end

