-- ==== Sys2Proof/Laws/PerInstr.lean ====
section
/-!
SUPPORT. The request rows and the requests of the queue name each other: one lemma per command.
-/

namespace Sys2Proof.Laws

open Sys2Proof

/-- A request row is the row of its own request (R167): the queue's requests reach every request row, with every operand. -/
def RowOfRequest.Statement (i : Instr) : Prop :=
  ∀ (t : Byte) (q : Request), i.request? = some (t, q) → ∃ x : SampleSet, q.row t x = i

/-- The set of a row that reads none. -/
def RowOfRequest.anySet : SampleSet :=
  { tilt := none, jacks := .all { stroke := none, pressure := none }
    rooms := .all { foreIn := false, aftIn := false, withdrawn := false, engaged := false }, stowed := false
    battery := none }

theorem RowOfRequest.powerOn (pins : StrapPins) (raw : RawInputs) (set : SampleSet) : RowOfRequest.Statement (.powerOn pins raw set) := by
  intro t q h; cases h

theorem RowOfRequest.frameReceived (bytes : List Byte) : RowOfRequest.Statement (.frameReceived bytes) := by
  intro t q h; cases h

theorem RowOfRequest.interByteGapTimeout (got : List Byte) : RowOfRequest.Statement (.interByteGapTimeout got) := by
  intro t q h; cases h

theorem RowOfRequest.requestTaken (set : SampleSet) : RowOfRequest.Statement (.requestTaken set) := by
  intro t q h; cases h

theorem RowOfRequest.frameTransmitComplete (raw : RawInputs) (set : SampleSet) : RowOfRequest.Statement (.frameTransmitComplete raw set) := by
  intro t q h; cases h

theorem RowOfRequest.identify (tag : Byte) : RowOfRequest.Statement (.identify tag) := by
  intro t q h; cases h; exact ⟨RowOfRequest.anySet, rfl⟩

theorem RowOfRequest.readCapability (tag offset count : Byte) : RowOfRequest.Statement (.readCapability tag offset count) := by
  intro t q h; cases h; exact ⟨RowOfRequest.anySet, rfl⟩

theorem RowOfRequest.readStatus (tag : Byte) : RowOfRequest.Statement (.readStatus tag) := by
  intro t q h; cases h; exact ⟨RowOfRequest.anySet, rfl⟩

theorem RowOfRequest.readCounters (tag : Byte) : RowOfRequest.Statement (.readCounters tag) := by
  intro t q h; cases h; exact ⟨RowOfRequest.anySet, rfl⟩

theorem RowOfRequest.move (tag : Byte) (r : RoomId) (e : EndCode) (v : Half) : RowOfRequest.Statement (.move tag r e v) := by
  intro t q h; cases h; exact ⟨RowOfRequest.anySet, rfl⟩

theorem RowOfRequest.jog (tag : Byte) (j : JackId) (v : Half) : RowOfRequest.Statement (.jog tag j v) := by
  intro t q h; cases h; exact ⟨RowOfRequest.anySet, rfl⟩

theorem RowOfRequest.awningMove (tag : Byte) (e : EndCode) (v : Half) : RowOfRequest.Statement (.awningMove tag e v) := by
  intro t q h; cases h; exact ⟨RowOfRequest.anySet, rfl⟩

theorem RowOfRequest.hold (tag mask : Byte) : RowOfRequest.Statement (.hold tag mask) := by
  intro t q h; cases h; exact ⟨RowOfRequest.anySet, rfl⟩

theorem RowOfRequest.stop (tag mask : Byte) : RowOfRequest.Statement (.stop tag mask) := by
  intro t q h; cases h; exact ⟨RowOfRequest.anySet, rfl⟩

theorem RowOfRequest.home (tag : Byte) (r : RoomId) : RowOfRequest.Statement (.home tag r) := by
  intro t q h; cases h; exact ⟨RowOfRequest.anySet, rfl⟩

theorem RowOfRequest.awningHome (tag : Byte) : RowOfRequest.Statement (.awningHome tag) := by
  intro t q h; cases h; exact ⟨RowOfRequest.anySet, rfl⟩

theorem RowOfRequest.levelAuto (tag : Byte) : RowOfRequest.Statement (.levelAuto tag) := by
  intro t q h; cases h; exact ⟨RowOfRequest.anySet, rfl⟩

theorem RowOfRequest.levelStow (tag : Byte) : RowOfRequest.Statement (.levelStow tag) := by
  intro t q h; cases h; exact ⟨RowOfRequest.anySet, rfl⟩

theorem RowOfRequest.resume (tag mask : Byte) : RowOfRequest.Statement (.resume tag mask) := by
  intro t q h; cases h; exact ⟨RowOfRequest.anySet, rfl⟩

theorem RowOfRequest.readGroup (tag : Byte) (g : Group) : RowOfRequest.Statement (.readGroup tag g) := by
  intro t q h; cases h; exact ⟨RowOfRequest.anySet, rfl⟩

theorem RowOfRequest.readStopRecord (tag : Byte) (g : Group) : RowOfRequest.Statement (.readStopRecord tag g) := by
  intro t q h; cases h; exact ⟨RowOfRequest.anySet, rfl⟩

theorem RowOfRequest.readLevelResult (tag : Byte) (p : LevelPart) : RowOfRequest.Statement (.readLevelResult tag p) := by
  intro t q h; cases h; exact ⟨RowOfRequest.anySet, rfl⟩

theorem RowOfRequest.clearAttention (tag mask : Byte) : RowOfRequest.Statement (.clearAttention tag mask) := by
  intro t q h; cases h; exact ⟨RowOfRequest.anySet, rfl⟩

theorem RowOfRequest.readEnvelope (tag index : Byte) : RowOfRequest.Statement (.readEnvelope tag index) := by
  intro t q h; cases h; exact ⟨RowOfRequest.anySet, rfl⟩

theorem RowOfRequest.writeEnvelope (tag index : Byte) (c : EnvContents) : RowOfRequest.Statement (.writeEnvelope tag index c) := by
  intro t q h; cases h; exact ⟨RowOfRequest.anySet, rfl⟩

theorem RowOfRequest.lockEnvelope (tag index : Byte) : RowOfRequest.Statement (.lockEnvelope tag index) := by
  intro t q h; cases h; exact ⟨RowOfRequest.anySet, rfl⟩

theorem RowOfRequest.readWatch (tag index : Byte) : RowOfRequest.Statement (.readWatch tag index) := by
  intro t q h; cases h; exact ⟨RowOfRequest.anySet, rfl⟩

theorem RowOfRequest.writeWatch (tag index : Byte) (c : WatchContents) : RowOfRequest.Statement (.writeWatch tag index c) := by
  intro t q h; cases h; exact ⟨RowOfRequest.anySet, rfl⟩

theorem RowOfRequest.clearWatchHits (tag mask : Byte) : RowOfRequest.Statement (.clearWatchHits tag mask) := by
  intro t q h; cases h; exact ⟨RowOfRequest.anySet, rfl⟩

theorem RowOfRequest.storeTables (tag : Byte) : RowOfRequest.Statement (.storeTables tag) := by
  intro t q h; cases h; exact ⟨RowOfRequest.anySet, rfl⟩

theorem RowOfRequest.circuitTest (tag : Byte) (c : ChannelId) : RowOfRequest.Statement (.circuitTest tag c) := by
  intro t q h; cases h; exact ⟨RowOfRequest.anySet, rfl⟩

theorem RowOfRequest.readHealth (tag : Byte) (first : ChannelId) (count : Byte) : RowOfRequest.Statement (.readHealth tag first count) := by
  intro t q h; cases h; exact ⟨RowOfRequest.anySet, rfl⟩

theorem RowOfRequest.readSetting (tag group item : Byte) : RowOfRequest.Statement (.readSetting tag group item) := by
  intro t q h; cases h; exact ⟨RowOfRequest.anySet, rfl⟩

theorem RowOfRequest.writeSetting (tag group item : Byte) (v : Half) : RowOfRequest.Statement (.writeSetting tag group item v) := by
  intro t q h; cases h; exact ⟨RowOfRequest.anySet, rfl⟩

theorem RowOfRequest.lockCalibration (tag group : Byte) : RowOfRequest.Statement (.lockCalibration tag group) := by
  intro t q h; cases h; exact ⟨RowOfRequest.anySet, rfl⟩

theorem RowOfRequest.zeroTilt (tag : Byte) : RowOfRequest.Statement (.zeroTilt tag) := by
  intro t q h; cases h; exact ⟨RowOfRequest.anySet, rfl⟩

theorem RowOfRequest.dormant (tag : Byte) : RowOfRequest.Statement (.dormant tag) := by
  intro t q h; cases h; exact ⟨RowOfRequest.anySet, rfl⟩

theorem RowOfRequest.wake (tag : Byte) (set : SampleSet) : RowOfRequest.Statement (.wake tag set) := by
  intro t q h; cases h; exact ⟨set, rfl⟩

theorem RowOfRequest.reset (tag : Byte) : RowOfRequest.Statement (.reset tag) := by
  intro t q h; cases h; exact ⟨RowOfRequest.anySet, rfl⟩

theorem RowOfRequest.sampleInterval (set : SampleSet) (order : List Consumer) : RowOfRequest.Statement (.sampleInterval set order) := by
  intro t q h; cases h

theorem RowOfRequest.jackSensorFaultClear (j : JackId) : RowOfRequest.Statement (.jackSensorFaultClear j) := by
  intro t q h; cases h

theorem RowOfRequest.encoderStep (a : CountAxis) (outward : Bool) : RowOfRequest.Statement (.encoderStep a outward) := by
  intro t q h; cases h

theorem RowOfRequest.anemometerPulse : RowOfRequest.Statement (.anemometerPulse) := by
  intro t q h; cases h

theorem RowOfRequest.inStopChange (r : RoomId) (d : Drive) (made : Bool) : RowOfRequest.Statement (.inStopChange r d made) := by
  intro t q h; cases h

theorem RowOfRequest.pinStateChange (r : RoomId) (p : PinState) : RowOfRequest.Statement (.pinStateChange r p) := by
  intro t q h; cases h

theorem RowOfRequest.stowedSwitchChange (made : Bool) : RowOfRequest.Statement (.stowedSwitchChange made) := by
  intro t q h; cases h

theorem RowOfRequest.parkBrakeReleased : RowOfRequest.Statement (.parkBrakeReleased) := by
  intro t q h; cases h

theorem RowOfRequest.parkBrakeSet : RowOfRequest.Statement (.parkBrakeSet) := by
  intro t q h; cases h

theorem RowOfRequest.ignitionOn (set : SampleSet) : RowOfRequest.Statement (.ignitionOn set) := by
  intro t q h; cases h

theorem RowOfRequest.ignitionOff : RowOfRequest.Statement (.ignitionOff) := by
  intro t q h; cases h

theorem RowOfRequest.engineOrChargingChange (charging : Bool) : RowOfRequest.Statement (.engineOrChargingChange charging) := by
  intro t q h; cases h

theorem RowOfRequest.airDumpedChange : RowOfRequest.Statement (.airDumpedChange) := by
  intro t q h; cases h

theorem RowOfRequest.lockoutKeyOn : RowOfRequest.Statement (.lockoutKeyOn) := by
  intro t q h; cases h

theorem RowOfRequest.lockoutKeyOff : RowOfRequest.Statement (.lockoutKeyOff) := by
  intro t q h; cases h

theorem RowOfRequest.channelReadingInterval (readings : PerChannel Nat) : RowOfRequest.Statement (.channelReadingInterval readings) := by
  intro t q h; cases h

theorem RowOfRequest.overcurrentTrip (c : ChannelId) : RowOfRequest.Statement (.overcurrentTrip c) := by
  intro t q h; cases h

theorem RowOfRequest.openCircuit (c : ChannelId) : RowOfRequest.Statement (.openCircuit c) := by
  intro t q h; cases h

theorem RowOfRequest.roomDriveStall (r : RoomId) (d : Drive) : RowOfRequest.Statement (.roomDriveStall r d) := by
  intro t q h; cases h

theorem RowOfRequest.awningStall : RowOfRequest.Statement (.awningStall) := by
  intro t q h; cases h

theorem RowOfRequest.controlInterval (r : RoomId) : RowOfRequest.Statement (.controlInterval r) := by
  intro t q h; cases h

theorem RowOfRequest.pinTimer (r : RoomId) : RowOfRequest.Statement (.pinTimer r) := by
  intro t q h; cases h

theorem RowOfRequest.holdTimer (a : HoldAxis) : RowOfRequest.Statement (.holdTimer a) := by
  intro t q h; cases h

theorem RowOfRequest.resumeWindow (a : HoldAxis) : RowOfRequest.Statement (.resumeWindow a) := by
  intro t q h; cases h

theorem RowOfRequest.roomTimeBudget (r : RoomId) : RowOfRequest.Statement (.roomTimeBudget r) := by
  intro t q h; cases h

theorem RowOfRequest.awningRunTime : RowOfRequest.Statement (.awningRunTime) := by
  intro t q h; cases h

theorem RowOfRequest.awningSupplyWaitBound : RowOfRequest.Statement (.awningSupplyWaitBound) := by
  intro t q h; cases h

theorem RowOfRequest.awningSuspensionBound : RowOfRequest.Statement (.awningSuspensionBound) := by
  intro t q h; cases h

theorem RowOfRequest.windWindow : RowOfRequest.Statement (.windWindow) := by
  intro t q h; cases h

theorem RowOfRequest.windLockoutOff : RowOfRequest.Statement (.windLockoutOff) := by
  intro t q h; cases h

theorem RowOfRequest.airDumpWait : RowOfRequest.Statement (.airDumpWait) := by
  intro t q h; cases h

theorem RowOfRequest.supplyWaitBound : RowOfRequest.Statement (.supplyWaitBound) := by
  intro t q h; cases h

theorem RowOfRequest.suspensionBound : RowOfRequest.Statement (.suspensionBound) := by
  intro t q h; cases h

theorem RowOfRequest.settleTimer : RowOfRequest.Statement (.settleTimer) := by
  intro t q h; cases h

theorem RowOfRequest.stepSettle : RowOfRequest.Statement (.stepSettle) := by
  intro t q h; cases h

theorem RowOfRequest.runTimer : RowOfRequest.Statement (.runTimer) := by
  intro t q h; cases h

theorem RowOfRequest.jogRunTimeBudget : RowOfRequest.Statement (.jogRunTimeBudget) := by
  intro t q h; cases h

theorem RowOfRequest.driftTimer : RowOfRequest.Statement (.driftTimer) := by
  intro t q h; cases h

theorem RowOfRequest.sagComplete : RowOfRequest.Statement (.sagComplete) := by
  intro t q h; cases h

theorem RowOfRequest.recoveryComplete : RowOfRequest.Statement (.recoveryComplete) := by
  intro t q h; cases h

theorem RowOfRequest.lowVoltageEntry : RowOfRequest.Statement (.lowVoltageEntry) := by
  intro t q h; cases h

theorem RowOfRequest.lowVoltageExit : RowOfRequest.Statement (.lowVoltageExit) := by
  intro t q h; cases h

theorem RowOfRequest.testReadingA (mA mV : Nat) : RowOfRequest.Statement (.testReadingA mA mV) := by
  intro t q h; cases h

theorem RowOfRequest.testComplete (mA mV : Nat) : RowOfRequest.Statement (.testComplete mA mV) := by
  intro t q h; cases h

theorem RowOfRequest.storeWriteComplete : RowOfRequest.Statement (.storeWriteComplete) := by
  intro t q h; cases h

theorem RowOfRequest.inputInterval (raw : RawInputs) : RowOfRequest.Statement (.inputInterval raw) := by
  intro t q h; cases h

theorem RowOfRequest.framingFault (got : List Byte) (cause : FramingCause) : RowOfRequest.Statement (.framingFault got cause) := by
  intro t q h; cases h

theorem RowOfRequest.powerLoss (torn : TornTables) : RowOfRequest.Statement (.powerLoss torn) := by
  intro t q h; cases h

end Sys2Proof.Laws
end

