-- ==== Sys2Proof/Laws/Still.lean ====
section
/-!
SUPPORT. What the motion of the groups leaves as it was (`State.still`): one lemma for each shared operation of the
levelling engine, the rooms, the awning, the arbiter, the guard and the stows.
-/

set_option linter.unusedSimpArgs false

namespace Sys2Proof.Machine

open Sys2Proof

/-! ## Updates -/

@[simp] theorem State.still_with_jk (s : State) (v : Levelling) : ({ s with jk := v } : State).still = s.still := rfl
@[simp] theorem State.still_with_aw (s : State) (v : Awning) : ({ s with aw := v } : State).still = s.still := rfl
@[simp] theorem State.still_with_arb (s : State) (v : Arbiter) : ({ s with arb := v } : State).still = s.still := rfl
@[simp] theorem State.still_with_sa (s : State) (v : StanceAttention) : ({ s with sa := v } : State).still = s.still := rfl

theorem State.still_foldl {α : Type} (f : State → α → State) (h : ∀ t a, (f t a).still = t.still) (l : List α)
    (s : State) : (l.foldl f s).still = s.still := by
  induction l generalizing s with
  | nil => rfl
  | cons a l ih => simp [ih, h]

/-- The notice flag apart, adding one changes nothing that stands still. -/
theorem State.still_of_notice (s : State) (v : StanceAttention) (b : Bool) :
    ({ s with sa := v, link := { s.link with notice := b } } : State).still = s.still := rfl

@[simp] theorem State.still_setRoom (s : State) (r : RoomId) (x : Room) : (s.setRoom r x).still = s.still := rfl
@[simp] theorem State.still_setChan (s : State) (c : ChannelId) (x : Channel) : (s.setChan c x).still = s.still := rfl
@[simp] theorem State.still_off (s : State) (c : ChannelId) : (s.off c).still = s.still := rfl
@[simp] theorem State.still_drive (s : State) (c : ChannelId) (d : ChanDir) (n : Int) : (s.drive c d n).still = s.still := rfl
@[simp] theorem State.still_clearPeaks (s : State) (g : Group) : (s.clearPeaks g).still = s.still := rfl
@[simp] theorem State.still_setSense (s : State) (r : RoomId) (x : RoomSense) : (s.setSense r x).still = s.still := rfl
@[simp] theorem State.still_zeroRoom (s : State) (r : RoomId) : (s.zeroRoom r).still = s.still := rfl
@[simp] theorem State.still_zeroAwning (s : State) : s.zeroAwning.still = s.still := rfl
@[simp] theorem State.still_modAw (s : State) (f : Awning → Awning) : (s.modAw f).still = s.still := rfl
@[simp] theorem State.still_setPending (s : State) (p : Option StowCause) : (s.setPending p).still = s.still := rfl
@[simp] theorem State.still_modArb (s : State) (f : Arbiter → Arbiter) : (s.modArb f).still = s.still := rfl
@[simp] theorem State.still_claimJacks (s : State) : s.claimJacks.still = s.still := rfl
@[simp] theorem State.still_claimRoom (s : State) (r : RoomId) : (s.claimRoom r).still = s.still := rfl
@[simp] theorem State.still_setLight (s : State) (j : JackId) (b : Bool) : (s.setLight j b).still = s.still := rfl
@[simp] theorem State.still_setTouch (s : State) (j : JackId) : (s.setTouch j).still = s.still := rfl
@[simp] theorem State.still_assertDump (s : State) : s.assertDump.still = s.still := rfl
@[simp] theorem State.still_restance (s : State) : s.restance.still = s.still := rfl
@[simp] theorem State.still_grantHead (s : State) (e : Waiting) (l : List Waiting) : (s.grantHead e l).still = s.still := rfl
@[simp] theorem State.still_roomOff (s : State) (r : RoomId) : (s.roomOff r).still = s.still := rfl
@[simp] theorem State.still_voltageSample (s : State) : s.voltageSample.still = s.still := rfl
@[simp] theorem State.still_joinGroup (s : State) (g : Group) : (s.joinGroup g).still = s.still := by
  unfold State.joinGroup
  try dsimp only
  repeat' first | with_reducible rfl | split | simp only [
    State.still_with_jk, State.still_with_aw, State.still_with_arb, State.still_with_sa, State.still_of_notice]
@[simp] theorem State.still_joinSupervision (s : State) (f : SupCauses → SupCauses) : (s.joinSupervision f).still = s.still := by
  unfold State.joinSupervision
  try dsimp only
  repeat' first | with_reducible rfl | split | simp only [
    State.still_with_jk, State.still_with_aw, State.still_with_arb, State.still_with_sa, State.still_of_notice]
@[simp] theorem State.still_giveUp (s : State) (g : Group) : (s.giveUp g).still = s.still := by cases g <;> rfl
@[simp] theorem State.still_recordEnd (s : State) (g : Group) (e : StopRecord) : (s.recordEnd g e).still = s.still := by
  unfold State.recordEnd
  try dsimp only
  repeat' first | with_reducible rfl | split | simp only [
    State.still_with_jk, State.still_with_aw, State.still_with_arb, State.still_with_sa, State.still_restance,
    State.still_joinGroup]
@[simp] theorem State.still_dropSupply (s : State) (g : Group) : (s.dropSupply g).still = s.still := by
  unfold State.dropSupply
  try dsimp only
  repeat' first | with_reducible rfl | split | simp only [
    State.still_with_jk, State.still_with_aw, State.still_with_arb, State.still_with_sa]
@[simp] theorem State.still_pumpFollow (s : State) : s.pumpFollow.still = s.still := by
  unfold State.pumpFollow
  try dsimp only
  repeat' first | with_reducible rfl | split | simp only [
    State.still_with_jk, State.still_with_aw, State.still_with_arb, State.still_with_sa, State.still_off,
    State.still_drive]
@[simp] theorem State.still_openValve (s : State) (j : JackId) (d : ChanDir) : (s.openValve j d).still = s.still := by
  unfold State.openValve
  try dsimp only
  repeat' first | with_reducible rfl | split | simp only [
    State.still_with_jk, State.still_with_aw, State.still_with_arb, State.still_with_sa, State.still_drive,
    State.still_pumpFollow]
@[simp] theorem State.still_closeValve (s : State) (j : JackId) : (s.closeValve j).still = s.still := by
  unfold State.closeValve
  try dsimp only
  repeat' first | with_reducible rfl | split | simp only [
    State.still_with_jk, State.still_with_aw, State.still_with_arb, State.still_with_sa, State.still_off,
    State.still_pumpFollow]
@[simp] theorem State.still_closeValves (s : State) : s.closeValves.still = s.still := by
  unfold State.closeValves
  simp [State.still_foldl (fun t j => t.off (.valve j)) (fun _ _ => rfl)]

/-! ## The levelling engine -/

@[simp] theorem State.still_endJacks (s : State) (reason : Reason) : (s.endJacks reason).still = s.still := by
  unfold State.endJacks
  try dsimp only
  repeat' first | with_reducible rfl | split | simp only [
    State.still_with_jk, State.still_with_aw, State.still_with_arb, State.still_with_sa, State.still_giveUp,
    State.still_recordEnd, State.still_dropSupply, State.still_closeValves]
@[simp] theorem State.still_startStep (s : State) (j : JackId) (n : Nat) : (s.startStep j n).still = s.still := by
  unfold State.startStep
  try dsimp only
  repeat' first | with_reducible rfl | split | simp only [
    State.still_with_jk, State.still_with_aw, State.still_with_arb, State.still_with_sa, State.still_openValve]
@[simp] theorem State.still_nextLight (l : List JackId) (s : State) : (s.nextLight l).still = s.still := by
  induction l generalizing s with
  | nil => simp [State.nextLight]
  | cons j l ih => unfold State.nextLight; (repeat' split) <;> simp [ih]
@[simp] theorem State.still_finishStepping (s : State) (j : JackId) : (s.finishStepping j).still = s.still := by
  unfold State.finishStepping
  try dsimp only
  repeat' first | with_reducible rfl | split | simp only [
    State.still_with_jk, State.still_with_aw, State.still_with_arb, State.still_with_sa, State.still_setLight,
    State.still_nextLight]
@[simp] theorem State.still_enterLoadCheck (s : State) : s.enterLoadCheck.still = s.still := by
  unfold State.enterLoadCheck
  try dsimp only
  repeat' first | with_reducible rfl | split | simp only [
    State.still_with_jk, State.still_with_aw, State.still_with_arb, State.still_with_sa, State.still_nextLight]
@[simp] theorem State.still_judgeStep (s : State) (p : LightStep) : (s.judgeStep p).still = s.still := by
  unfold State.judgeStep
  try dsimp only
  repeat' first | with_reducible rfl | split | simp only [
    State.still_with_jk, State.still_with_aw, State.still_with_arb, State.still_with_sa, State.still_openValve,
    State.still_startStep, State.still_finishStepping]
@[simp] theorem State.still_markDone (s : State) (t : Station) : (s.markDone t).still = s.still := by cases t <;> rfl
@[simp] theorem State.still_openTowards (s : State) (j : JackId) (n : Int) : (s.openTowards j n).still = s.still := by
  unfold State.openTowards
  try dsimp only
  repeat' first | with_reducible rfl | split | simp only [
    State.still_with_jk, State.still_with_aw, State.still_with_arb, State.still_with_sa, State.still_openValve]
@[simp] theorem State.still_openStation (s : State) (t : Station) : (s.openStation t).still = s.still := by
  unfold State.openStation
  exact (State.still_foldl _ (fun u j => State.still_openTowards u j _) _ _).trans rfl
@[simp] theorem State.still_enterSettle (s : State) : s.enterSettle.still = s.still := by
  unfold State.enterSettle
  try dsimp only
  repeat' first | with_reducible rfl | split | simp only [
    State.still_with_jk, State.still_with_aw, State.still_with_arb, State.still_with_sa]
@[simp] theorem State.still_chooseStation (n : Nat) (s : State) : (s.chooseStation n).still = s.still := by
  induction n generalizing s with
  | zero => simp [State.chooseStation]
  | succ n ih =>
    unfold State.chooseStation
    try dsimp only
    repeat' first | with_reducible rfl | split | simp only [ih, State.still_openStation, State.still_markDone,
      State.still_enterSettle]
@[simp] theorem State.still_startPass (s : State) (k : Nat) : (s.startPass k).still = s.still := by
  unfold State.startPass
  try dsimp only
  repeat' first | with_reducible rfl | split | simp only [
    State.still_with_jk, State.still_with_aw, State.still_with_arb, State.still_with_sa, State.still_drive,
    State.still_endJacks, State.still_chooseStation]
@[simp] theorem State.still_judgeSettle (s : State) : s.judgeSettle.still = s.still := by
  unfold State.judgeSettle
  try dsimp only
  repeat' first | with_reducible rfl | split | simp only [
    State.still_with_jk, State.still_with_aw, State.still_with_arb, State.still_with_sa, State.still_endJacks,
    State.still_enterLoadCheck, State.still_startPass]
@[simp] theorem State.still_touchdownDone (s : State) : s.touchdownDone.still = s.still := by
  unfold State.touchdownDone
  try dsimp only
  repeat' first | with_reducible rfl | split | simp only [
    State.still_with_jk, State.still_with_aw, State.still_with_arb, State.still_with_sa]
@[simp] theorem State.still_touchdownFirst (s : State) : s.touchdownFirst.still = s.still := by
  unfold State.touchdownFirst
  simp only [State.still_touchdownDone]
  exact (State.still_foldl _ (fun t j => by split <;> simp) _ _).trans rfl
@[simp] theorem State.still_touchdownJudge (s : State) (j : JackId) : (s.touchdownJudge j).still = s.still := by
  unfold State.touchdownJudge
  try dsimp only
  repeat' first | with_reducible rfl | split | simp only [
    State.still_with_jk, State.still_with_aw, State.still_with_arb, State.still_with_sa, State.still_setTouch,
    State.still_closeValve]
@[simp] theorem State.still_touchdownNext (s : State) : s.touchdownNext.still = s.still := by
  have h : (s.presentJacks.foldl State.touchdownJudge s).still = s.still := State.still_foldl _ State.still_touchdownJudge _ _
  unfold State.touchdownNext
  dsimp only
  split <;> simp [h]

@[simp] theorem State.still_openStow (s : State) : s.openStow.still = s.still := by
  unfold State.openStow
  exact State.still_foldl _ (fun t j => by split <;> simp) _ _
@[simp] theorem State.still_jogDrive (s : State) : s.jogDrive.still = s.still := by
  unfold State.jogDrive
  try dsimp only
  repeat' first | with_reducible rfl | split | simp only [
    State.still_with_jk, State.still_with_aw, State.still_with_arb, State.still_with_sa, State.still_endJacks,
    State.still_openTowards]
@[simp] theorem State.still_haltJacks (s : State) : s.haltJacks.still = s.still := by
  unfold State.haltJacks
  try dsimp only
  repeat' first | with_reducible rfl | split | simp only [
    State.still_with_jk, State.still_with_aw, State.still_with_arb, State.still_with_sa, State.still_closeValves]
@[simp] theorem State.still_suspendJacks (s : State) : s.suspendJacks.still = s.still := by
  unfold State.suspendJacks
  try dsimp only
  repeat' first | with_reducible rfl | split | simp only [
    State.still_with_jk, State.still_with_aw, State.still_with_arb, State.still_with_sa, State.still_haltJacks]
@[simp] theorem State.still_freezeJacks (s : State) : s.freezeJacks.still = s.still := by
  unfold State.freezeJacks
  try dsimp only
  repeat' first | with_reducible rfl | split | simp only [
    State.still_with_jk, State.still_with_aw, State.still_with_arb, State.still_with_sa, State.still_haltJacks]
@[simp] theorem State.still_openUntouched (s : State) :
    (s.presentJacks.foldl (fun t j => if (t.jk.touch.get j).isSome then t else t.openValve j .first) s).still = s.still :=
  State.still_foldl _ (fun t j => by split <;> simp) _ _
@[simp] theorem State.still_returnJacks (s : State) : s.returnJacks.still = s.still := by
  unfold State.returnJacks
  dsimp only
  (repeat' split) <;> simp
@[simp] theorem State.still_returnJacksIfFree (s : State) : s.returnJacksIfFree.still = s.still := by
  unfold State.returnJacksIfFree
  try dsimp only
  repeat' first | with_reducible rfl | split | simp only [
    State.still_with_jk, State.still_with_aw, State.still_with_arb, State.still_with_sa, State.still_returnJacks]
@[simp] theorem State.still_grantJacks (s : State) : s.grantJacks.still = s.still := by
  unfold State.grantJacks
  try dsimp only
  repeat' first | with_reducible rfl | split | simp only [
    State.still_with_jk, State.still_with_aw, State.still_with_arb, State.still_with_sa, State.still_openStow,
    State.still_jogDrive]
@[simp] theorem State.still_resumeJacks (s : State) : s.resumeJacks.still = s.still := by
  unfold State.resumeJacks
  try dsimp only
  repeat' first | with_reducible rfl | split | simp only [
    State.still_with_jk, State.still_with_aw, State.still_with_arb, State.still_with_sa,
    State.still_returnJacksIfFree]
@[simp] theorem State.still_lapseJog (s : State) : s.lapseJog.still = s.still := by
  unfold State.lapseJog
  try dsimp only
  repeat' first | with_reducible rfl | split | simp only [
    State.still_with_jk, State.still_with_aw, State.still_with_arb, State.still_with_sa, State.still_haltJacks]
@[simp] theorem State.still_unfreezeJacks (s : State) : s.unfreezeJacks.still = s.still := by
  unfold State.unfreezeJacks
  try dsimp only
  repeat' first | with_reducible rfl | split | simp only [
    State.still_with_jk, State.still_with_aw, State.still_with_arb, State.still_with_sa,
    State.still_returnJacksIfFree, State.still_lapseJog]
@[simp] theorem State.still_holdJog (s : State) : s.holdJog.still = s.still := by
  unfold State.holdJog
  try dsimp only
  repeat' first | with_reducible rfl | split | simp only [
    State.still_with_jk, State.still_with_aw, State.still_with_arb, State.still_with_sa,
    State.still_returnJacksIfFree]
@[simp] theorem State.still_roomEnded (s : State) : s.roomEnded.still = s.still := by
  unfold State.roomEnded
  try dsimp only
  repeat' first | with_reducible rfl | split | simp only [
    State.still_with_jk, State.still_with_aw, State.still_with_arb, State.still_with_sa]
@[simp] theorem State.still_driftCheck (s : State) : s.driftCheck.still = s.still := by
  unfold State.driftCheck
  try dsimp only
  repeat' first | with_reducible rfl | split | simp only [
    State.still_with_jk, State.still_with_aw, State.still_with_arb, State.still_with_sa, State.still_joinGroup]
@[simp] theorem State.still_rederive (s : State) : s.rederive.still = s.still := by
  unfold State.rederive
  try dsimp only
  repeat' first | with_reducible rfl | split | simp only [
    State.still_with_jk, State.still_with_aw, State.still_with_arb, State.still_with_sa]
@[simp] theorem State.still_stepSample (s : State) (p : LightStep) (b : Bool) : (s.stepSample p b).still = s.still := by
  unfold State.stepSample
  try dsimp only
  repeat' first | with_reducible rfl | split | simp only [
    State.still_with_jk, State.still_with_aw, State.still_with_arb, State.still_with_sa,
    State.still_closeValve, State.still_finishStepping, State.still_judgeStep]
@[simp] theorem State.still_driveSample (s : State) : s.driveSample.still = s.still := by
  unfold State.driveSample
  split
  · rfl
  · rename_i t _
    have h : ((s.jacksOf t).foldl (fun u j => if u.valveAtBand j (u.targetOf j) then u.closeValve j else u) s).still
        = s.still := State.still_foldl _ (fun u j => by split <;> simp) _ _
    dsimp only
    split <;> simp [h]

@[simp] theorem State.still_stowSample (s : State) : s.stowSample.still = s.still := by
  have h : (s.presentJacks.foldl (fun t j => if t.driven (.valve j) && t.retracted j then t.closeValve j else t) s).still
      = s.still := State.still_foldl _ (fun t j => by split <;> simp) _ _
  unfold State.stowSample
  dsimp only
  repeat' first | with_reducible rfl | split | simp only [h, State.still_endJacks]
@[simp] theorem State.still_jogSample (s : State) : s.jogSample.still = s.still := by
  unfold State.jogSample
  try dsimp only
  repeat' first | with_reducible rfl | split | simp only [
    State.still_with_jk, State.still_with_aw, State.still_with_arb, State.still_with_sa, State.still_endJacks]
@[simp] theorem State.still_jackSample (s : State) (f : SampleFaults) (b : Bool) : (s.jackSample f b).still = s.still := by
  unfold State.jackSample
  dsimp only
  (repeat' split) <;> simp

/-! ## Rooms -/

@[simp] theorem State.still_finishRoom (s : State) (r : RoomId) (reason : Reason) (k : Bool) (p : EndPosition) : (s.finishRoom r reason k p).still = s.still := by
  unfold State.finishRoom
  try dsimp only
  repeat' first | with_reducible rfl | split | simp only [
    State.still_with_jk, State.still_with_aw, State.still_with_arb, State.still_with_sa, State.still_setRoom,
    State.still_roomOff, State.still_giveUp, State.still_recordEnd, State.still_dropSupply,
    State.still_roomEnded]
@[simp] theorem State.still_endRoom (s : State) (r : RoomId) (reason : Reason) : (s.endRoom r reason).still = s.still := by
  unfold State.endRoom
  try dsimp only
  repeat' first | with_reducible rfl | split | simp only [
    State.still_with_jk, State.still_with_aw, State.still_with_arb, State.still_with_sa, State.still_finishRoom]
@[simp] theorem State.still_endRoomUnsure (s : State) (r : RoomId) (reason : Reason) : (s.endRoomUnsure r reason).still = s.still := by
  unfold State.endRoomUnsure
  try dsimp only
  repeat' first | with_reducible rfl | split | simp only [
    State.still_with_jk, State.still_with_aw, State.still_with_arb, State.still_with_sa, State.still_finishRoom]
@[simp] theorem State.still_roomArrivesIn (s : State) (r : RoomId) (reason : Reason) : (s.roomArrivesIn r reason).still = s.still := by
  unfold State.roomArrivesIn
  try dsimp only
  repeat' first | with_reducible rfl | split | simp only [
    State.still_with_jk, State.still_with_aw, State.still_with_arb, State.still_with_sa, State.still_zeroRoom,
    State.still_finishRoom]
@[simp] theorem State.still_enterPreparing (s : State) (r : RoomId) : (s.enterPreparing r).still = s.still := by
  unfold State.enterPreparing
  try dsimp only
  repeat' first | with_reducible rfl | split | simp only [
    State.still_with_jk, State.still_with_aw, State.still_with_arb, State.still_with_sa, State.still_setRoom,
    State.still_drive]
@[simp] theorem State.still_enterSettling (s : State) (r : RoomId) : (s.enterSettling r).still = s.still := by
  unfold State.enterSettling
  try dsimp only
  repeat' first | with_reducible rfl | split | simp only [
    State.still_with_jk, State.still_with_aw, State.still_with_arb, State.still_with_sa, State.still_setRoom,
    State.still_off, State.still_drive]
@[simp] theorem State.still_roomArrival (s : State) (r : RoomId) : (s.roomArrival r).still = s.still := by
  unfold State.roomArrival
  try dsimp only
  repeat' first | with_reducible rfl | split | simp only [
    State.still_with_jk, State.still_with_aw, State.still_with_arb, State.still_with_sa,
    State.still_finishRoom, State.still_endRoomUnsure, State.still_enterSettling]
@[simp] theorem State.still_startDrive (s : State) (r : RoomId) (d : Drive) : (s.startDrive r d).still = s.still := by
  unfold State.startDrive
  try dsimp only
  repeat' first | with_reducible rfl | split | simp only [
    State.still_with_jk, State.still_with_aw, State.still_with_arb, State.still_with_sa, State.still_drive]
@[simp] theorem State.still_enterMoving (s : State) (r : RoomId) : (s.enterMoving r).still = s.still := by
  unfold State.enterMoving
  try dsimp only
  repeat' first | with_reducible rfl | split | simp only [
    State.still_with_jk, State.still_with_aw, State.still_with_arb, State.still_with_sa, State.still_setRoom,
    State.still_endRoomUnsure, State.still_roomArrival, State.still_startDrive]
@[simp] theorem State.still_proceedRoom (s : State) (r : RoomId) : (s.proceedRoom r).still = s.still := by
  unfold State.proceedRoom
  try dsimp only
  repeat' first | with_reducible rfl | split | simp only [
    State.still_with_jk, State.still_with_aw, State.still_with_arb, State.still_with_sa,
    State.still_enterPreparing, State.still_enterSettling, State.still_enterMoving]
@[simp] theorem State.still_pinWithdrawn (s : State) (r : RoomId) : (s.pinWithdrawn r).still = s.still := by
  unfold State.pinWithdrawn
  try dsimp only
  repeat' first | with_reducible rfl | split | simp only [
    State.still_with_jk, State.still_with_aw, State.still_with_arb, State.still_with_sa, State.still_off,
    State.still_enterMoving]
@[simp] theorem State.still_pinEngaged (s : State) (r : RoomId) : (s.pinEngaged r).still = s.still := by
  unfold State.pinEngaged
  try dsimp only
  repeat' first | with_reducible rfl | split | simp only [
    State.still_with_jk, State.still_with_aw, State.still_with_arb, State.still_with_sa, State.still_off,
    State.still_roomArrivesIn]
@[simp] theorem State.still_correctDuties (s : State) (r : RoomId) : (s.correctDuties r).still = s.still := by
  unfold State.correctDuties
  try dsimp only
  repeat' first | with_reducible rfl | split | simp only [
    State.still_with_jk, State.still_with_aw, State.still_with_arb, State.still_with_sa, State.still_drive]
@[simp] theorem State.still_partnerNominal (s : State) (r : RoomId) (d : Drive) : (s.partnerNominal r d).still = s.still := by
  unfold State.partnerNominal
  try dsimp only
  repeat' first | with_reducible rfl | split | simp only [
    State.still_with_jk, State.still_with_aw, State.still_with_arb, State.still_with_sa, State.still_drive]
@[simp] theorem State.still_stopDrive (s : State) (r : RoomId) (d : Drive) : (s.stopDrive r d).still = s.still := by
  unfold State.stopDrive
  try dsimp only
  repeat' first | with_reducible rfl | split | simp only [
    State.still_with_jk, State.still_with_aw, State.still_with_arb, State.still_with_sa, State.still_setRoom,
    State.still_off, State.still_drive, State.still_partnerNominal]
@[simp] theorem State.still_judgeDrive (s : State) (r : RoomId) (d : Drive) : (s.judgeDrive r d).still = s.still := by
  unfold State.judgeDrive
  try dsimp only
  repeat' first | with_reducible rfl | split | simp only [
    State.still_with_jk, State.still_with_aw, State.still_with_arb, State.still_with_sa, State.still_drive,
    State.still_endRoomUnsure, State.still_stopDrive]
@[simp] theorem State.still_arriveIfStill (s : State) (r : RoomId) : (s.arriveIfStill r).still = s.still := by
  unfold State.arriveIfStill
  try dsimp only
  repeat' first | with_reducible rfl | split | simp only [
    State.still_with_jk, State.still_with_aw, State.still_with_arb, State.still_with_sa, State.still_roomArrival]
@[simp] theorem State.still_roomMovingSample (s : State) (r : RoomId) : (s.roomMovingSample r).still = s.still := by
  unfold State.roomMovingSample
  try dsimp only
  repeat' first | with_reducible rfl | split | simp only [
    State.still_with_jk, State.still_with_aw, State.still_with_arb, State.still_with_sa,
    State.still_endRoomUnsure, State.still_judgeDrive, State.still_arriveIfStill]
@[simp] theorem State.still_roomSample (s : State) (r : RoomId) : (s.roomSample r).still = s.still := by
  unfold State.roomSample
  try dsimp only
  repeat' first | with_reducible rfl | split | simp only [
    State.still_with_jk, State.still_with_aw, State.still_with_arb, State.still_with_sa,
    State.still_pinWithdrawn, State.still_pinEngaged, State.still_roomMovingSample]
@[simp] theorem State.still_roomStalls (s : State) (r : RoomId) (d : Drive) : (s.roomStalls r d).still = s.still := by
  unfold State.roomStalls
  try dsimp only
  repeat' first | with_reducible rfl | split | simp only [
    State.still_with_jk, State.still_with_aw, State.still_with_arb, State.still_with_sa, State.still_endRoom,
    State.still_endRoomUnsure, State.still_stopDrive, State.still_arriveIfStill]
@[simp] theorem State.still_haltRoom (s : State) (r : RoomId) : (s.haltRoom r).still = s.still := by
  unfold State.haltRoom
  try dsimp only
  repeat' first | with_reducible rfl | split | simp only [
    State.still_with_jk, State.still_with_aw, State.still_with_arb, State.still_with_sa, State.still_setRoom,
    State.still_roomOff]
@[simp] theorem State.still_suspendRoom (s : State) (r : RoomId) : (s.suspendRoom r).still = s.still := by
  unfold State.suspendRoom
  try dsimp only
  repeat' first | with_reducible rfl | split | simp only [
    State.still_with_jk, State.still_with_aw, State.still_with_arb, State.still_with_sa, State.still_setRoom,
    State.still_haltRoom]
@[simp] theorem State.still_freezeRoom (s : State) (r : RoomId) : (s.freezeRoom r).still = s.still := by
  unfold State.freezeRoom
  try dsimp only
  repeat' first | with_reducible rfl | split | simp only [
    State.still_with_jk, State.still_with_aw, State.still_with_arb, State.still_with_sa, State.still_setRoom,
    State.still_haltRoom]
@[simp] theorem State.still_lapseRoom (s : State) (r : RoomId) : (s.lapseRoom r).still = s.still := by
  unfold State.lapseRoom
  try dsimp only
  repeat' first | with_reducible rfl | split | simp only [
    State.still_with_jk, State.still_with_aw, State.still_with_arb, State.still_with_sa, State.still_setRoom,
    State.still_haltRoom]
@[simp] theorem State.still_returnRoom (s : State) (r : RoomId) : (s.returnRoom r).still = s.still := by
  unfold State.returnRoom
  try dsimp only
  repeat' first | with_reducible rfl | split | simp only [
    State.still_with_jk, State.still_with_aw, State.still_with_arb, State.still_with_sa, State.still_setRoom,
    State.still_roomArrivesIn, State.still_enterPreparing, State.still_enterSettling, State.still_enterMoving,
    State.still_proceedRoom]
@[simp] theorem State.still_returnRoomIfFree (s : State) (r : RoomId) : (s.returnRoomIfFree r).still = s.still := by
  unfold State.returnRoomIfFree
  try dsimp only
  repeat' first | with_reducible rfl | split | simp only [
    State.still_with_jk, State.still_with_aw, State.still_with_arb, State.still_with_sa, State.still_returnRoom]
@[simp] theorem State.still_grantRoom (s : State) (r : RoomId) : (s.grantRoom r).still = s.still := by
  unfold State.grantRoom
  try dsimp only
  repeat' first | with_reducible rfl | split | simp only [
    State.still_with_jk, State.still_with_aw, State.still_with_arb, State.still_with_sa, State.still_proceedRoom]
@[simp] theorem State.still_resumeRoom (s : State) (r : RoomId) : (s.resumeRoom r).still = s.still := by
  unfold State.resumeRoom
  try dsimp only
  repeat' first | with_reducible rfl | split | simp only [
    State.still_with_jk, State.still_with_aw, State.still_with_arb, State.still_with_sa, State.still_setRoom,
    State.still_returnRoomIfFree]
@[simp] theorem State.still_unfreezeRoom (s : State) (r : RoomId) : (s.unfreezeRoom r).still = s.still := by
  unfold State.unfreezeRoom
  try dsimp only
  repeat' first | with_reducible rfl | split | simp only [
    State.still_with_jk, State.still_with_aw, State.still_with_arb, State.still_with_sa, State.still_setRoom,
    State.still_lapseRoom, State.still_returnRoomIfFree]
@[simp] theorem State.still_holdRoom (s : State) (r : RoomId) : (s.holdRoom r).still = s.still := by
  unfold State.holdRoom
  try dsimp only
  repeat' first | with_reducible rfl | split | simp only [
    State.still_with_jk, State.still_with_aw, State.still_with_arb, State.still_with_sa, State.still_setRoom,
    State.still_returnRoomIfFree]

/-! ## The awning -/

@[simp] theorem State.still_finishAwning (s : State) (reason : Reason) (k : Bool) (p : EndPosition) : (s.finishAwning reason k p).still = s.still := by
  unfold State.finishAwning
  try dsimp only
  repeat' first | with_reducible rfl | split | simp only [
    State.still_with_jk, State.still_with_aw, State.still_with_arb, State.still_with_sa, State.still_off,
    State.still_recordEnd, State.still_dropSupply]
@[simp] theorem State.still_endAwning (s : State) (reason : Reason) : (s.endAwning reason).still = s.still := by
  unfold State.endAwning
  try dsimp only
  repeat' first | with_reducible rfl | split | simp only [
    State.still_with_jk, State.still_with_aw, State.still_with_arb, State.still_with_sa,
    State.still_finishAwning]
@[simp] theorem State.still_awningArrivesIn (s : State) : s.awningArrivesIn.still = s.still := by
  unfold State.awningArrivesIn
  try dsimp only
  repeat' first | with_reducible rfl | split | simp only [
    State.still_with_jk, State.still_with_aw, State.still_with_arb, State.still_with_sa,
    State.still_zeroAwning, State.still_finishAwning]
@[simp] theorem State.still_driveAwning (s : State) : s.driveAwning.still = s.still := by
  unfold State.driveAwning State.endAwning
  try dsimp only
  repeat' first | with_reducible rfl | split | simp only [
    State.still_with_jk, State.still_with_aw, State.still_with_arb, State.still_with_sa, State.still_drive,
    State.still_modAw, State.still_finishAwning]
@[simp] theorem State.still_enterAwningMoving (s : State) : s.enterAwningMoving.still = s.still := by
  unfold State.enterAwningMoving
  try dsimp only
  repeat' first | with_reducible rfl | split | simp only [
    State.still_with_jk, State.still_with_aw, State.still_with_arb, State.still_with_sa, State.still_modAw,
    State.still_finishAwning, State.still_awningArrivesIn, State.still_driveAwning]
@[simp] theorem State.still_enterStowing (s : State) : s.enterStowing.still = s.still := by
  unfold State.enterStowing
  try dsimp only
  repeat' first | with_reducible rfl | split | simp only [
    State.still_with_jk, State.still_with_aw, State.still_with_arb, State.still_with_sa, State.still_drive,
    State.still_modAw, State.still_awningArrivesIn]
@[simp] theorem State.still_awningSample (s : State) : s.awningSample.still = s.still := by
  unfold State.awningSample
  try dsimp only
  repeat' first | with_reducible rfl | split | simp only [
    State.still_with_jk, State.still_with_aw, State.still_with_arb, State.still_with_sa,
    State.still_finishAwning, State.still_awningArrivesIn]
@[simp] theorem State.still_haltAwning (s : State) : s.haltAwning.still = s.still := by
  unfold State.haltAwning
  try dsimp only
  repeat' first | with_reducible rfl | split | simp only [
    State.still_with_jk, State.still_with_aw, State.still_with_arb, State.still_with_sa, State.still_off,
    State.still_modAw]
@[simp] theorem State.still_suspendAwning (s : State) : s.suspendAwning.still = s.still := by
  unfold State.suspendAwning
  try dsimp only
  repeat' first | with_reducible rfl | split | simp only [
    State.still_with_jk, State.still_with_aw, State.still_with_arb, State.still_with_sa, State.still_modAw,
    State.still_haltAwning]
@[simp] theorem State.still_freezeAwning (s : State) : s.freezeAwning.still = s.still := by
  unfold State.freezeAwning
  try dsimp only
  repeat' first | with_reducible rfl | split | simp only [
    State.still_with_jk, State.still_with_aw, State.still_with_arb, State.still_with_sa, State.still_modAw,
    State.still_haltAwning]
@[simp] theorem State.still_returnAwning (s : State) : s.returnAwning.still = s.still := by
  unfold State.returnAwning
  try dsimp only
  repeat' first | with_reducible rfl | split | simp only [
    State.still_with_jk, State.still_with_aw, State.still_with_arb, State.still_with_sa, State.still_modAw,
    State.still_enterAwningMoving, State.still_enterStowing]
@[simp] theorem State.still_returnAwningIfFree (s : State) : s.returnAwningIfFree.still = s.still := by
  unfold State.returnAwningIfFree
  try dsimp only
  repeat' first | with_reducible rfl | split | simp only [
    State.still_with_jk, State.still_with_aw, State.still_with_arb, State.still_with_sa,
    State.still_returnAwning]
@[simp] theorem State.still_grantAwning (s : State) : s.grantAwning.still = s.still := by
  unfold State.grantAwning
  try dsimp only
  repeat' first | with_reducible rfl | split | simp only [
    State.still_with_jk, State.still_with_aw, State.still_with_arb, State.still_with_sa, State.still_modAw,
    State.still_enterAwningMoving]
@[simp] theorem State.still_resumeAwning (s : State) : s.resumeAwning.still = s.still := by
  unfold State.resumeAwning
  try dsimp only
  repeat' first | with_reducible rfl | split | simp only [
    State.still_with_jk, State.still_with_aw, State.still_with_arb, State.still_with_sa, State.still_modAw,
    State.still_returnAwningIfFree]
@[simp] theorem State.still_unfreezeAwning (s : State) : s.unfreezeAwning.still = s.still := by
  unfold State.unfreezeAwning
  try dsimp only
  repeat' first | with_reducible rfl | split | simp only [
    State.still_with_jk, State.still_with_aw, State.still_with_arb, State.still_with_sa, State.still_modAw,
    State.still_returnAwningIfFree]

/-! ## The arbiter -/

@[simp] theorem State.still_notifyGrant (s : State) (e : Waiting) : (s.notifyGrant e).still = s.still := by
  unfold State.notifyGrant
  try dsimp only
  repeat' first | with_reducible rfl | split | simp only [
    State.still_with_jk, State.still_with_aw, State.still_with_arb, State.still_with_sa,
    State.still_grantJacks, State.still_resumeJacks, State.still_grantRoom, State.still_resumeRoom,
    State.still_grantAwning, State.still_resumeAwning]
@[simp] theorem State.still_walkFuel (n : Nat) (s : State) : (s.walkFuel n).still = s.still := by
  induction n generalizing s with
  | zero => rfl
  | succ n ih => unfold State.walkFuel; (repeat' split) <;> simp [ih]
@[simp] theorem State.still_walk (s : State) : s.walk.still = s.still := by
  unfold State.walk
  try dsimp only
  repeat' first | with_reducible rfl | split | simp only [
    State.still_with_jk, State.still_with_aw, State.still_with_arb, State.still_with_sa, State.still_walkFuel]
@[simp] theorem State.still_walkAfter (s t : State) : (s.walkAfter t).still = t.still := by
  unfold State.walkAfter; split <;> simp

@[simp] theorem State.still_settled (s t : State) : (s.settled t).still = t.still := by simp [State.settled]
@[simp] theorem State.still_requestSupply (s : State) (g : Group) (c : SupplyClass) (n : Nat) : (s.requestSupply g c n).still = s.still := by
  unfold State.requestSupply
  try dsimp only
  repeat' first | with_reducible rfl | split | simp only [
    State.still_with_jk, State.still_with_aw, State.still_with_arb, State.still_with_sa, State.still_walk]
@[simp] theorem State.still_notifySuspend (s : State) (g : Group) : (s.notifySuspend g).still = s.still := by
  unfold State.notifySuspend
  try dsimp only
  repeat' first | with_reducible rfl | split | simp only [
    State.still_with_jk, State.still_with_aw, State.still_with_arb, State.still_with_sa,
    State.still_suspendJacks, State.still_suspendRoom, State.still_suspendAwning]
@[simp] theorem State.still_suspendHolder (s : State) (v : Grant) : (s.suspendHolder v).still = s.still := by
  unfold State.suspendHolder
  try dsimp only
  repeat' first | with_reducible rfl | split | simp only [
    State.still_with_jk, State.still_with_aw, State.still_with_arb, State.still_with_sa,
    State.still_notifySuspend]
@[simp] theorem State.still_suspendUntil (need n : Nat) (s : State) : (s.suspendUntil need n).still = s.still := by
  induction n generalizing s with
  | zero => rfl
  | succ n ih => unfold State.suspendUntil; (repeat' split) <;> simp [ih]
@[simp] theorem State.still_requestStow (s : State) (n : Nat) : (s.requestStow n).still = s.still := by
  unfold State.requestStow
  try dsimp only
  repeat' first | with_reducible rfl | split | simp only [
    State.still_with_jk, State.still_with_aw, State.still_with_arb, State.still_with_sa,
    State.still_suspendUntil]
@[simp] theorem State.still_budgetChanged (s : State) (n : Nat) : (s.budgetChanged n).still = s.still := by
  unfold State.budgetChanged
  try dsimp only
  repeat' first | with_reducible rfl | split | simp only [
    State.still_with_jk, State.still_with_aw, State.still_with_arb, State.still_with_sa, State.still_walk,
    State.still_suspendUntil]
@[simp] theorem State.still_rebase (s : State) : s.rebase.still = s.still := by
  unfold State.rebase
  try dsimp only
  repeat' first | with_reducible rfl | split | simp only [
    State.still_with_jk, State.still_with_aw, State.still_with_arb, State.still_with_sa,
    State.still_budgetChanged]
@[simp] theorem State.still_setLevel (s : State) (n : Nat) : (s.setLevel n).still = s.still := by
  unfold State.setLevel
  try dsimp only
  repeat' first | with_reducible rfl | split | simp only [
    State.still_with_jk, State.still_with_aw, State.still_with_arb, State.still_with_sa,
    State.still_budgetChanged]

/-! ## The guard -/

@[simp] theorem State.still_endGroup (s : State) (g : Group) (reason : Reason) : (s.endGroup g reason).still = s.still := by
  unfold State.endGroup
  try dsimp only
  repeat' first | with_reducible rfl | split | simp only [
    State.still_with_jk, State.still_with_aw, State.still_with_arb, State.still_with_sa, State.still_endJacks,
    State.still_endRoom, State.still_endAwning]
@[simp] theorem State.still_endMove (s : State) (g : Group) (reason : Reason) : (s.endMove g reason).still = s.still := by
  unfold State.endMove
  try dsimp only
  repeat' first | with_reducible rfl | split | simp only [
    State.still_with_jk, State.still_with_aw, State.still_with_arb, State.still_with_sa, State.still_endAwning,
    State.still_endGroup]
@[simp] theorem State.still_endMoves (s : State) (gs : List Group) (reason : Reason) :
    (s.endMoves gs reason).still = s.still := by
  unfold State.endMoves
  rw [State.still_settled]
  exact State.still_foldl _ (fun t g => State.still_endMove t g reason) _ _

@[simp] theorem State.still_envelopeGroup (f : Fresh) (s : State) (g : Group) :
    (State.envelopeGroup f s g).still = s.still := by
  unfold State.envelopeGroup; split <;> simp

@[simp] theorem State.still_envelopeSample (s : State) (f : Fresh) : (s.envelopeSample f).still = s.still :=
  State.still_foldl _ (State.still_envelopeGroup f) _ _

@[simp] theorem State.still_freezeOp (s : State) (g : Group) : (s.freezeOp g).still = s.still := by
  unfold State.freezeOp
  try dsimp only
  repeat' first | with_reducible rfl | split | simp only [
    State.still_with_jk, State.still_with_aw, State.still_with_arb, State.still_with_sa,
    State.still_freezeJacks, State.still_freezeRoom, State.still_freezeAwning]
@[simp] theorem State.still_with_freeze (s : State) (v : PerGroup Bool) :
    ({ s with guard := { s.guard with freeze := v } } : State).still = s.still := rfl

@[simp] theorem State.still_freezeGroup (s : State) (g : Group) : (s.freezeGroup g).still = s.still := by
  unfold State.freezeGroup
  try dsimp only
  repeat' first | with_reducible rfl | split | simp only [
    State.still_with_jk, State.still_with_aw, State.still_with_arb, State.still_with_sa, State.still_freezeOp,
    State.still_with_freeze]
@[simp] theorem State.still_freezeAll (s : State) : s.freezeAll.still = s.still := by
  unfold State.freezeAll
  rw [State.still_restance]
  exact State.still_foldl _ State.still_freezeGroup _ _

theorem State.still_setHit (s : State) (i : Nat) (u : WatchUnit) (b : Bool) (h : s.guard.watches[i]? = some u) :
    (s.setHit i u b).still = s.still := by
  have e : (s.guard.watches.set i { u with hit := b }).map (·.contents) = s.guard.watches.map (·.contents) := by
    rw [List.map_set]
    have : (s.guard.watches.map (·.contents))[i]? = some u.contents := by simp [h]
    apply List.ext_getElem?
    intro j
    rw [List.getElem?_set]
    have hi := (List.getElem?_eq_some_iff.mp h).1
    split <;> simp_all
  unfold State.still State.setHit
  simp only [e]

theorem State.still_fireWatch (s : State) (i : Nat) (u : WatchUnit) (h : s.guard.watches[i]? = some u) :
    (s.fireWatch i u).still = s.still := by
  unfold State.fireWatch
  split <;> simp [State.still_setHit s i u true h]

@[simp] theorem State.still_watchUnit (b : State) (f : Fresh) (s : State) (i : Nat) :
    (State.watchUnit b f s i).still = s.still := by
  unfold State.watchUnit
  split
  · rename_i u h
    split
    · exact State.still_fireWatch s i u h
    · rfl
  · rfl

@[simp] theorem State.still_watchSample (s b : State) (f : Fresh) : (s.watchSample b f).still = s.still :=
  State.still_foldl _ (State.still_watchUnit b f) _ _


/-! ## Stows -/

@[simp] theorem State.still_beginStow (s : State) (c : StowCause) : (s.beginStow c).still = s.still := by
  unfold State.beginStow
  try dsimp only
  repeat' first | with_reducible rfl | split | simp only [
    State.still_with_jk, State.still_with_aw, State.still_with_arb, State.still_with_sa, State.still_clearPeaks,
    State.still_modAw, State.still_enterStowing, State.still_settled, State.still_requestStow]
@[simp] theorem State.still_pendStow (s : State) (c : StowCause) : (s.pendStow c).still = s.still := by
  unfold State.pendStow
  try dsimp only
  repeat' first | with_reducible rfl | split | simp only [
    State.still_with_jk, State.still_with_aw, State.still_with_arb, State.still_with_sa, State.still_setPending]
@[simp] theorem State.still_stowIdle (s : State) (c : StowCause) : (s.stowIdle c).still = s.still := by
  unfold State.stowIdle
  try dsimp only
  repeat' first | with_reducible rfl | split | simp only [
    State.still_with_jk, State.still_with_aw, State.still_with_arb, State.still_with_sa, State.still_beginStow,
    State.still_pendStow]
@[simp] theorem State.still_recauseStow (s : State) (c : StowCause) : (s.recauseStow c).still = s.still := by
  unfold State.recauseStow
  try dsimp only
  repeat' first | with_reducible rfl | split | simp only [
    State.still_with_jk, State.still_with_aw, State.still_with_arb, State.still_with_sa, State.still_modAw]
@[simp] theorem State.still_stowDue (s : State) (c : StowCause) : (s.stowDue c).still = s.still := by
  unfold State.stowDue
  try dsimp only
  repeat' first | with_reducible rfl | split | simp only [
    State.still_with_jk, State.still_with_aw, State.still_with_arb, State.still_with_sa, State.still_endAwning,
    State.still_settled, State.still_pendStow, State.still_stowIdle, State.still_recauseStow]
@[simp] theorem State.still_driveAway (s : State) : s.driveAway.still = s.still := by
  unfold State.driveAway
  try dsimp only
  repeat' first | with_reducible rfl | split | simp only [
    State.still_with_jk, State.still_with_aw, State.still_with_arb, State.still_with_sa, State.still_stowDue]
@[simp] theorem State.still_driveAwayCheck (s : State) : s.driveAwayCheck.still = s.still := by
  unfold State.driveAwayCheck
  try dsimp only
  repeat' first | with_reducible rfl | split | simp only [
    State.still_with_jk, State.still_with_aw, State.still_with_arb, State.still_with_sa, State.still_driveAway]
@[simp] theorem State.still_takeUpStow (s : State) : s.takeUpStow.still = s.still := by
  unfold State.takeUpStow
  try dsimp only
  repeat' first | with_reducible rfl | split | simp only [
    State.still_with_jk, State.still_with_aw, State.still_with_arb, State.still_with_sa,
    State.still_setPending, State.still_beginStow]
@[simp] theorem State.still_keyEndsStow (s : State) : s.keyEndsStow.still = s.still := by
  unfold State.keyEndsStow
  try dsimp only
  repeat' first | with_reducible rfl | split | simp only [
    State.still_with_jk, State.still_with_aw, State.still_with_arb, State.still_with_sa,
    State.still_setPending, State.still_endAwning, State.still_settled]

/-! ## Requests of the groups -/

@[simp] theorem State.still_askPump (s : State) : s.askPump.still = s.still := by
  unfold State.askPump
  try dsimp only
  repeat' first | with_reducible rfl | split | simp only [
    State.still_with_jk, State.still_with_aw, State.still_with_arb, State.still_with_sa,
    State.still_requestSupply]
@[simp] theorem State.still_enterTouchdown (s : State) : s.enterTouchdown.still = s.still := by
  unfold State.enterTouchdown
  try dsimp only
  repeat' first | with_reducible rfl | split | simp only [
    State.still_with_jk, State.still_with_aw, State.still_with_arb, State.still_with_sa, State.still_askPump]
@[simp] theorem State.still_airDumpIfReady (s : State) : s.airDumpIfReady.still = s.still := by
  unfold State.airDumpIfReady
  try dsimp only
  repeat' first | with_reducible rfl | split | simp only [
    State.still_with_jk, State.still_with_aw, State.still_with_arb, State.still_with_sa,
    State.still_enterTouchdown]
@[simp] theorem State.still_takeJacks (s : State) (w : JackWork) : (s.takeJacks w).still = s.still := by
  unfold State.takeJacks
  try dsimp only
  repeat' first | with_reducible rfl | split | simp only [
    State.still_with_jk, State.still_with_aw, State.still_with_arb, State.still_with_sa, State.still_clearPeaks,
    State.still_claimJacks]
@[simp] theorem State.still_startLevel (s : State) : s.startLevel.still = s.still := by
  unfold State.startLevel
  try dsimp only
  repeat' first | with_reducible rfl | split | simp only [
    State.still_with_jk, State.still_with_aw, State.still_with_arb, State.still_with_sa,
    State.still_assertDump, State.still_enterTouchdown, State.still_airDumpIfReady, State.still_takeJacks]
@[simp] theorem State.still_stowAtOnce (s : State) : s.stowAtOnce.still = s.still := by
  unfold State.stowAtOnce
  try dsimp only
  repeat' first | with_reducible rfl | split | simp only [
    State.still_with_jk, State.still_with_aw, State.still_with_arb, State.still_with_sa, State.still_recordEnd]
@[simp] theorem State.still_startJog (s : State) (j : JackId) (v : Half) : (s.startJog j v).still = s.still := by
  unfold State.startJog
  try dsimp only
  repeat' first | with_reducible rfl | split | simp only [
    State.still_with_jk, State.still_with_aw, State.still_with_arb, State.still_with_sa,
    State.still_assertDump, State.still_askPump, State.still_takeJacks]
@[simp] theorem State.still_takeRoom (s : State) (r : RoomId) (b : Bool) (t : Target) : (s.takeRoom r b t).still = s.still := by
  unfold State.takeRoom
  try dsimp only
  repeat' first | with_reducible rfl | split | simp only [
    State.still_with_jk, State.still_with_aw, State.still_with_arb, State.still_with_sa, State.still_setRoom,
    State.still_claimRoom, State.still_clearPeaks]
@[simp] theorem State.still_roomAtOnce (s : State) (r : RoomId) (b : Bool) : (s.roomAtOnce r b).still = s.still := by
  unfold State.roomAtOnce
  try dsimp only
  repeat' first | with_reducible rfl | split | simp only [
    State.still_with_jk, State.still_with_aw, State.still_with_arb, State.still_with_sa, State.still_setRoom,
    State.still_zeroRoom, State.still_recordEnd, State.still_roomEnded]
@[simp] theorem State.still_startRoom (s : State) (r : RoomId) (b : Bool) (t : Target) : (s.startRoom r b t).still = s.still := by
  unfold State.startRoom
  try dsimp only
  repeat' first | with_reducible rfl | split | simp only [
    State.still_with_jk, State.still_with_aw, State.still_with_arb, State.still_with_sa,
    State.still_requestSupply, State.still_takeRoom, State.still_roomAtOnce]
@[simp] theorem State.still_takeAwning (s : State) (o : AwningOp) (t : Target) (b : Bool) : (s.takeAwning o t b).still = s.still := by
  unfold State.takeAwning
  try dsimp only
  repeat' first | with_reducible rfl | split | simp only [
    State.still_with_jk, State.still_with_aw, State.still_with_arb, State.still_with_sa, State.still_clearPeaks,
    State.still_modAw]
@[simp] theorem State.still_askAwning (s : State) : s.askAwning.still = s.still := by
  unfold State.askAwning
  try dsimp only
  repeat' first | with_reducible rfl | split | simp only [
    State.still_with_jk, State.still_with_aw, State.still_with_arb, State.still_with_sa, State.still_modAw,
    State.still_requestSupply]
@[simp] theorem State.still_awningAtOnce (s : State) (o : AwningOp) : (s.awningAtOnce o).still = s.still := by
  unfold State.awningAtOnce
  try dsimp only
  repeat' first | with_reducible rfl | split | simp only [
    State.still_with_jk, State.still_with_aw, State.still_with_arb, State.still_with_sa,
    State.still_zeroAwning, State.still_modAw, State.still_recordEnd]
@[simp] theorem State.still_startAwning (s : State) (o : AwningOp) (t : Target) (b : Bool) : (s.startAwning o t b).still = s.still := by
  unfold State.startAwning
  try dsimp only
  repeat' first | with_reducible rfl | split | simp only [
    State.still_with_jk, State.still_with_aw, State.still_with_arb, State.still_with_sa,
    State.still_takeAwning, State.still_askAwning, State.still_awningAtOnce]
theorem still_judged (s : State) (l : List (Option Answer)) (p : Answer × State) (h : p.2.still = s.still) :
    (judged s l p).2.still = s.still := by
  unfold judged; split <;> simp [h]

@[simp] theorem State.still_onLevelAuto (s : State) : s.onLevelAuto.2.still = s.still :=
  still_judged _ _ _ (by simp)

@[simp] theorem State.still_onLevelStow (s : State) : s.onLevelStow.2.still = s.still :=
  still_judged _ _ _ (by dsimp only; split <;> simp)

@[simp] theorem State.still_onJog (s : State) (j : JackId) (v : Half) : (s.onJog j v).2.still = s.still :=
  still_judged _ _ _ (by simp)

@[simp] theorem State.still_onRoomMove (s : State) (r : RoomId) (e : EndCode) (v : Half) : (s.onRoomMove r e v).2.still = s.still :=
  still_judged _ _ _ (by simp)

@[simp] theorem State.still_onRoomHome (s : State) (r : RoomId) : (s.onRoomHome r).2.still = s.still :=
  still_judged _ _ _ (by simp)

@[simp] theorem State.still_onAwningMove (s : State) (e : EndCode) (v : Half) : (s.onAwningMove e v).2.still = s.still :=
  still_judged _ _ _ (by simp)

@[simp] theorem State.still_onAwningHome (s : State) : s.onAwningHome.2.still = s.still :=
  still_judged _ _ _ (by simp)

@[simp] theorem State.still_holdGroup (s : State) (g : Group) : (s.holdGroup g).2.still = s.still := by
  cases g <;> simp only [State.holdGroup] <;> (try split) <;> simp

theorem still_holdStep (l : List Group) (p : Nat × State) : (l.foldl holdStep p).2.still = p.2.still := by
  induction l generalizing p with
  | nil => rfl
  | cons g l ih => simp [ih, holdStep]

@[simp] theorem State.still_onHold (s : State) (m : Byte) : (s.onHold m).2.still = s.still := still_holdStep _ _

@[simp] theorem State.still_onStop (s : State) (m : Byte) : (s.onStop m).2.still = s.still := by simp [State.onStop]

@[simp] theorem State.still_unfreezeOp (s : State) (g : Group) : (s.unfreezeOp g).still = s.still := by
  unfold State.unfreezeOp
  (repeat' split) <;> simp
@[simp] theorem State.still_resumeGroup (s : State) (g : Group) : (s.resumeGroup g).still = s.still := by
  unfold State.resumeGroup
  try dsimp only
  repeat' first | with_reducible rfl | split | simp only [
    State.still_with_jk, State.still_with_aw, State.still_with_arb, State.still_with_sa, State.still_settled,
    State.still_unfreezeOp, State.still_with_freeze]
@[simp] theorem State.still_onResume (s : State) (m : Byte) : (s.onResume m).2.still = s.still :=
  State.still_foldl _ State.still_resumeGroup _ _

end Sys2Proof.Machine
end

