-- ==== Sys2Proof/Tests/Slice0.lean ====
section
/-!
SUPPORT. Small tests of the model: the well-formedness checks, words and values the manual states, single commands, and,
for each statement with hypotheses, states and operands that meet them (`test_hyps_<Name>`).
-/

namespace Sys2Proof.Tests

open Sys2Proof Sys2Proof.Machine

/-! ## States the tests start from -/

/-- The parked coach of `State.reset` with nothing being sent. -/
def bus : State := { State.reset with link := Link.initial }

/-- The same with the ignition on. -/
def lit : State := { bus with inputs := { bus.inputs with ignition := .first true } }

/-- Room 0 in the state given, its position and the rest as asked. -/
def withRoom (s : State) (f : Room → Room) : State := s.setRoom .room0 (f (s.room .room0))

/-- Room 0 as the front end sees it. -/
def withSense (s : State) (f : RoomSense → RoomSense) : State := s.setSense .room0 (f (s.sense .room0))

def withJacks (s : State) (f : Levelling → Levelling) : State := { s with jk := f s.jk }
def withAwning (s : State) (f : Awning → Awning) : State := { s with aw := f s.aw }
def withGuard (s : State) (f : Guard → Guard) : State := { s with guard := f s.guard }
def withFe (s : State) (f : FrontEnd → FrontEnd) : State := { s with fe := f s.fe }
def withArb (s : State) (f : Arbiter → Arbiter) : State := { s with arb := f s.arb }
def withLink (s : State) (f : Link → Link) : State := { s with link := f s.link }
def withStore (s : State) (f : Store → Store) : State := { s with store := f s.store }
def withInputs (s : State) (f : Inputs → Inputs) : State := { s with inputs := f s.inputs }
def withWind (s : State) (f : Wind → Wind) : State := { s with wind := f s.wind }

/-- One channel in the mode given. -/
def withMode (s : State) (c : ChannelId) (m : ChanMode) : State := s.setChan c { s.chan c with mode := m }

/-- Room 0 in the working or suspended state given, with its claim. -/
def roomIn (s : State) (st : RoomState) (f : Room → Room) : State :=
  withGuard (withRoom s fun x => f { x with st := st, target := .out, endPos := .unknown, holdLeft := some 300 })
    fun g => { g with roomWork := g.roomWork.set .room0 true }

/-- JACKS in the working or suspended state given, with the claim. -/
def jacksIn (s : State) (st : JackState) (f : Levelling → Levelling) : State :=
  withGuard (withJacks s fun j => f { j with st := st }) fun g => { g with jackWork := true }

/-- The awning in the state given. -/
def awningIn (s : State) (st : AwningState) (op : AwningOp) (f : Awning → Awning) : State :=
  withAwning s fun a => f { a with st := st, op := op, endPos := .unknown }

/-- The first sample set of a parked coach with everything in. -/
def parked : SampleSet :=
  { tilt := some (0, 0), jacks := .all { stroke := some 0, pressure := some 0 }
    rooms := .all { foreIn := true, aftIn := true, withdrawn := false, engaged := true }, stowed := true, battery := some 1260 }

def parkedRaw : RawInputs :=
  { parkSet := true, ignition := false, engine := false, charging := false, airDumped := false, keyOff := true }

/-- The pins of the full coach of `State.reset`. -/
def fullPins : StrapPins := { sixJacks := true, roomPins := 4, awning := true, supply24 := false, airsusp := true }

/-- The next state of a command; `s` itself were there none, which never is. -/
def after (c : Instr) (s : State) : State :=
  match exec c s with
  | .next t => t
  | _ => s

/-! ## Well-formed commands (R164, R169): an ill-formed one for each check -/

theorem test_wf_hold : (Instr.hold 0 0x3F).wf = true ∧ (Instr.hold 0 0x40).wf = false := by decide
theorem test_wf_stop : (Instr.stop 0 0x3F).wf = true ∧ (Instr.stop 0 0x80).wf = false := by decide
theorem test_wf_resume : (Instr.resume 0 0x3F).wf = true ∧ (Instr.resume 0 0x40).wf = false := by decide
theorem test_wf_clearAttention : (Instr.clearAttention 0 0x7F).wf = true ∧ (Instr.clearAttention 0 0x80).wf = false := by
  decide
theorem test_wf_clearWatchHits : (Instr.clearWatchHits 0 0x0F).wf = true ∧ (Instr.clearWatchHits 0 0x10).wf = false := by
  decide
/-- The value of a MOVE with end IN or OUT is not read, so it spoils none (9.5). -/
theorem test_wf_move : (Instr.move 0 .room0 .out 1).wf = true ∧ (Instr.awningMove 0 .inn 7).wf = true := by decide
theorem test_wf_readSetting : (Instr.readSetting 0 0 13).wf = true ∧ (Instr.readSetting 0 0 14).wf = false
    ∧ (Instr.readSetting 0 7 3).wf = false ∧ (Instr.readSetting 0 8 0).wf = false := by decide
theorem test_wf_writeSetting : (Instr.writeSetting 0 6 3 0).wf = true ∧ (Instr.writeSetting 0 6 4 0).wf = false := by
  decide
theorem test_wf_lockCalibration : (Instr.lockCalibration 0 9).wf = true ∧ (Instr.lockCalibration 0 10).wf = false := by
  decide
theorem test_wf_framingFault : (Instr.framingFault [0xC3] (.badLength 1)).wf = true
    ∧ (Instr.framingFault [0xC3] (.badLength 51)).wf = true ∧ (Instr.framingFault [0xC3] (.badLength 2)).wf = false
    ∧ (Instr.framingFault [0xC3] (.badLength 50)).wf = false := by decide

/-! ## Values the manual states -/

/-- The check of the nine bytes "123456789" (R164). -/
theorem test_crc : crc16 [0x31, 0x32, 0x33, 0x34, 0x35, 0x36, 0x37, 0x38, 0x39] = 0x29B1 := by decide +kernel

/-- POWER_ON of the coach that `State.reset` stands for gives `State.reset` (R184). -/
theorem test_powerOn_is_reset :
    exec (.powerOn fullPins parkedRaw parked) State.reset = .next State.reset := by rfl

/-! ## What the statements assume can be met -/

theorem bus_ready : bus.ready := by unfold State.ready; decide
theorem lit_ready : lit.ready := by unfold State.ready; decide

theorem test_hyps_StepTakesTheFrontCommand : bus.pending = [] := by decide

/-- Each byte the link port checks, at the last value it lets through (R169). -/
theorem test_hyps_RequestDecodesFromItsEncoding :
    (Request.hold 0x3F).wf = true ∧ (Request.stop 0x3F).wf = true ∧ (Request.resume 0x3F).wf = true
      ∧ (Request.clearAttention 0x7F).wf = true ∧ (Request.clearWatchHits 0x0F).wf = true
      ∧ (Request.readSetting 0 13).wf = true ∧ (Request.writeSetting 7 2 0xFFFF).wf = true
      ∧ (Request.lockCalibration 9).wf = true ∧ (Request.roomMove .room3 .position 0x8000).wf = true
      ∧ (Request.awningMove .out 0x1234).wf = true := by decide

/-- Awake with room in the queue, with a full queue, and dormant; payloads of 0 and 48 bytes. -/
theorem test_hyps_GoodFrameOffered :
    let full := withLink bus fun l => { l with queue := List.replicate 4 { kind := 1, tag := 0, payload := [] } }
    let asleep : State := { bus with power := .dormant }
    (bus.power ≠ .off ∧ bus.link.rx = .hunting ∧ ([] : List Byte).length ≤ 48 ∧ (List.replicate 48 (0 : Byte)).length ≤ 48
        ∧ ¬ 4 ≤ bus.link.queue.length)
      ∧ (full.power ≠ .off ∧ full.link.rx = .hunting ∧ full.power ≠ .dormant ∧ 4 ≤ full.link.queue.length)
      ∧ (asleep.power ≠ .off ∧ asleep.link.rx = .hunting ∧ asleep.power = .dormant ∧ (0x03 : Byte) ≠ 0x01
        ∧ (0x03 : Byte) ≠ 0x61) := by decide

/-- A wrong check; length bytes 2 and 50 with their frames cut short, and the length bytes 1 and 51 that no frame has. -/
theorem test_hyps_FaultyFramesCounted :
    (bus.power ≠ .off ∧ bus.link.rx = .hunting ∧ (0 : Half) ≠ crc16 [2, 1, 0]
        ∧ (0 : Half) ≠ crc16 (byteNum 50 :: 0x05 :: 0 :: List.replicate 48 0))
      ∧ (badLengthByte 2 = false ∧ [0x01, 0, 0].length < (2 : Byte).toNat + 2 ∧ badLengthByte 50 = false
        ∧ ([] : List Byte).length < (50 : Byte).toNat + 2 ∧ badLengthByte 1 = true ∧ badLengthByte 51 = true) := by
  decide +kernel

def queued (f : RequestFrame) : State := withLink bus fun l => { l with queue := [f] }

theorem queued_ready (f : RequestFrame) : (queued f).ready := ⟨rfl, rfl, rfl⟩

theorem test_hyps_TakingTheHeadRunsItsRow :
    let q : Request := .hold 0x3F
    (queued (q.frame 7)).ready ∧ q.wf = true ∧ (queued (q.frame 7)).link.queue = q.frame 7 :: [] :=
  ⟨queued_ready _, rfl, rfl⟩

/-- A kind without a row, a MOVE that is too short, a HOLD that names a seventh group; and a LEVEL with the ignition off. -/
theorem test_hyps_RefusalsChangeNothing :
    (∀ f, (queued f).ready ∧ (queued f).link.queue = f :: [])
      ∧ payloadLength 0x7F = none
      ∧ (payloadLength 0x10 = some 5 ∧ ([0] : List Byte).length ≠ 5)
      ∧ (payloadLength 0x11 = some 1 ∧ ∀ q, decodeArguments 0x11 [0x40] = some q → q.wf = false)
      ∧ (bus.ready ∧ Request.levelAuto.wf = true ∧ (bus.handle parked .levelAuto).1.isOk = false) := by
  refine ⟨fun f => ⟨queued_ready f, rfl⟩, rfl, by decide, ⟨rfl, fun q h => ?_⟩, bus_ready, rfl, rfl⟩
  cases h; rfl

theorem test_hyps_TransmitPathGoesOn :
    State.reset.power ≠ .off ∧ ∃ f, State.reset.link.tx = some f ∧ f.after = .nothing :=
  ⟨by decide, _, rfl, rfl⟩

/-- A notice owed while the RESET notice is sent, SUPERVISION in the set and out of it; a host frame of kind 0x7F. -/
theorem test_hyps_NoticeCarriesTheAttentionSet :
    let s := withLink State.reset fun l => { l with notice := true }
    let u : State := { s with sa := { s.sa with supervision := false, causes := .none } }
    (s.power ≠ .off ∧ (∃ f, s.link.tx = some f ∧ f.after = .nothing) ∧ s.link.slot = none ∧ s.link.notice = true
        ∧ s.sa.supervision = true)
      ∧ ((∃ f, u.link.tx = some f ∧ f.after = .nothing) ∧ u.link.notice = true ∧ u.sa.supervision = false)
      ∧ ((queued { kind := 0x7F, tag := 9, payload := [] }).ready) :=
  ⟨⟨by decide, ⟨_, rfl, rfl⟩, rfl, rfl, rfl⟩, ⟨⟨_, rfl, rfl⟩, rfl, rfl⟩, queued_ready _⟩

/-- A part sending the frame given. -/
def sending (s : State) (a : AfterReply) : State :=
  withLink s fun l => { l with tx := some { kind := 0xE2, tag := 0, payload := [0], after := a } }

/-- The counters at their last value; a RESET and a DORMANT reply on their way. -/
theorem test_hyps_LinkCountersKept :
    let s := withLink bus fun l => { l with framing := 65535, check := 65535, overflow := 65535 }
    (s.ready ∧ s.link.framing ≤ 65535 ∧ s.link.check ≤ 65535 ∧ s.link.overflow ≤ 65535)
      ∧ ∀ a : AfterReply, a ≠ .nothing →
        (sending s a).power = .awake ∧ ∃ f, (sending s a).link.tx = some f ∧ f.after ≠ .nothing ∧ f.after = a :=
  ⟨⟨⟨rfl, rfl, rfl⟩, by decide, by decide, by decide⟩, fun _ h => ⟨rfl, _, rfl, h, rfl⟩⟩

theorem test_hyps_IdentityAndCapability :
    let asleep : State := { bus with power := .dormant }
    (asleep.power ≠ .off ∧ asleep.link.slot = none ∧ asleep.ending = false) ∧ bus.ready :=
  ⟨by decide, bus_ready⟩

/-- A coach without awning and rooms, and the full one, with a record and without. -/
theorem test_hyps_StatusAndRecordsRead :
    let bare : State := { bus with straps := { bus.straps with rooms := 0, awning := false } }
    let e : StopRecord := { op := .home, reason := .arrived, positions := .awning 0, runMs := 0, peak := 0 }
    let told : State := { bus with sa := { bus.sa with records := bus.sa.records.set .awning (some e) } }
    (bare.ready ∧ bare.straps.hasGroup .awning = false ∧ bare.straps.hasGroup (.room .room0) = false)
      ∧ (bus.ready ∧ bus.straps.hasGroup (.room .room3) = true ∧ bus.sa.records.get .jacks = none)
      ∧ (told.ready ∧ told.straps.hasGroup .awning = true ∧ told.sa.records.get .awning = some e) := by
  unfold State.ready; decide

theorem bus_tablesWhole : bus.tablesWhole := by
  refine ⟨rfl, rfl, rfl, rfl, fun e w n h => ?_⟩; cases h

theorem test_hyps_TablesAndSettingsRead :
    bus.ready ∧ bus.tablesWhole ∧ (13 : Byte).toNat < itemCount 0 ∧ (2 : Byte).toNat < itemCount 7 :=
  ⟨bus_ready, bus_tablesWhole, by decide, by decide⟩

theorem test_hyps_NamedAttentionCleared : bus.ready ∧ maskWithin 7 0x7F = true ∧ maskWithin 7 0 = true :=
  ⟨bus_ready, rfl, rfl⟩

/-- The table with entry 3 locked, as LOCK_ENVELOPE leaves it, and a write that its other checks let through. -/
theorem test_hyps_TableEntriesWritten :
    let u := after (.lockEnvelope 0 3) bus
    let v : State := { u with link := Link.initial }
    let c := Config.factoryEnvelopeRest
    bus.ready ∧ bus.tablesWhole ∧ v.ready ∧ v.guard.envelope = u.guard.envelope
      ∧ v.straps.hasGroup c.subject = true ∧ c.source.isPresent v.straps = true :=
  ⟨bus_ready, bus_tablesWhole, ⟨rfl, rfl, rfl⟩, rfl, rfl, rfl⟩

/-- The part with unit 3 watching the source given at one value, its hit clear. -/
def watching (src : WatchSource) (v : Half) (action : WatchAction) (s : State) : State :=
  let c : WatchContents := { enabled := true, source := src, low := v, high := v, outside := false, action := action }
  withGuard s fun g => { g with watches := g.watches.set 3 { contents := c, hit := false } }

/-- A unit on the battery at the value of the next set, STOP_GROUP of a working room and FREEZE_ALL; the other units are
disabled. -/
theorem test_hyps_WatchHitsCleared :
    bus.ready ∧ maskWithin 4 0x0F = true
      ∧ ∀ action ∈ [WatchAction.stopGroup (.room .room0), .freezeAll],
        let s := watching .battery 1260 action (roomIn bus (.work .moving) id)
        let u : WatchUnit := { contents := { enabled := true, source := .battery, low := 1260, high := 1260, outside := false
                                             action := action }, hit := false }
        s.power = .awake ∧ s.guard.watches[3]? = some u ∧ (∀ k ∈ [0, 1, 2],
            (s.guard.watches[k]?).all fun w => !w.contents.enabled) ∧ s.guard.watches.length = 4
          ∧ u.contents.source.isPresent s.straps = true
          ∧ inWindow u.contents.low u.contents.high u.contents.outside 1260 = true
          ∧ (s.atSet parked).watchValue .battery = some 1260 ∧ s.straps.hasGroup (.room .room0) = true
          ∧ s.working (.room .room0) ∧ s.frozen (.room .room0) = false
          ∧ (s.atSet parked).anyJackFault = false ∧ (s.atSet parked).fe.ring ≠ [] := by
  simp only [State.ready, State.working]
  decide +kernel

/-- A gust of 28 below every threshold, which a unit watches; and no sustained value yet. -/
theorem test_hyps_WatchHitsCleared_wind :
    let s := watching .gust 28 .freezeAll (withFe bus fun f => { f with pulses := 1 })
    let gust := max 0 (min 600 ((s.fe.pulses : Int) * s.store.active.awningCal.pulseFactor))
    s.power = .awake ∧ s.straps.awning = true ∧ gust = 28 ∧ inWindow 28 28 false gust = true
      ∧ gust < s.store.active.awningRun.gustStow ∧ s.wind.ring.length + 1 < 12 := by
  decide +kernel

def busy (j : StoreJob) (left : Nat) : State := withStore bus fun t => { t with job := some (j, left) }
def lockedStore : State := withStore bus fun t => { t with locks := 0xF }
def fullRing (s : State) : State := withFe s fun f => { f with ring := List.replicate 16 (0, 0) }

/-- Free and in flight; locked and not; the first and the last groups of the checks. -/
theorem test_hyps_StoreRequestsAnswered :
    (bus.ready ∧ bus.store.job = none ∧ (13 : Byte).toNat < itemCount 0 ∧ itemPresent bus.straps 0 13 = true
        ∧ bus.isLocked 0 = false ∧ bus.store.locks.getLsbD 3 = false)
      ∧ (lockedStore.ready ∧ lockedStore.store.job = none ∧ lockedStore.store.locks.getLsbD 3 = true
        ∧ lockedStore.isLocked 3 = true ∧ (1 : Byte).toNat < itemCount 3 ∧ itemPresent lockedStore.straps 3 1 = true)
      ∧ ((fullRing bus).ready ∧ (fullRing bus).fe.ring.length = 16 ∧ (fullRing bus).jk.st.isIdle = true
        ∧ (fullRing bus).store.job = none ∧ (fullRing bus).store.locks.getLsbD 3 = false)
      ∧ ((busy (.lock 0) 30).ready ∧ (busy (.lock 0) 30).store.job ≠ none ∧ (9 : Byte).toNat < 10
        ∧ (2 : Byte).toNat < itemCount 7 ∧ itemPresent (busy (.lock 0) 30).straps 7 2 = true)
      ∧ (4 ≤ (4 : Byte).toNat ∧ (4 : Byte).toNat < 10 ∧ (3 : Byte).toNat < 4) := by
  unfold State.ready; decide

theorem test_hyps_StoreWriteTakesEffect :
    ∀ j d, (busy j d).power = .awake ∧ (busy j d).store.job = some (j, d) := fun _ _ => ⟨rfl, rfl⟩

theorem test_hyps_StoreWriteTakesEffect_item : (13 < itemCount (byteNum 0) ∧ 0 < 8) ∧ (2 < itemCount (byteNum 7) ∧ 7 < 8) := by
  decide

/-! ### Taking motion -/

theorem test_hyps_PermitsRefuseInOrder :
    (let s := withJacks (withInputs bus fun i => { i with keyOff := .first false }) id
     s.ready ∧ s.jk.st.isIdle = true ∧ s.anyJackFault = false ∧ (∀ c ∈ s.levelChannels, s.usable c = true)
       ∧ firstCode [(s.keyOn, (4 : Byte)), (s.arb.lowVoltage, 5), (s.frozen .jacks, 6), (s.brakeReleased, 1),
           (!s.ignition, 2)] = some 4)
      ∧ (bus.ready ∧ bus.jk.st.isIdle = true ∧ bus.anyJackFault = false ∧ (∀ c ∈ bus.levelChannels, bus.usable c = true)
        ∧ firstCode [(bus.keyOn, (4 : Byte)), (bus.arb.lowVoltage, 5), (bus.frozen .jacks, 6), (bus.brakeReleased, 1),
            (!bus.ignition, 2)] = some 2)
      ∧ (let s := withInputs bus fun i => { i with parkSet := .first false }
         s.ready ∧ s.straps.hasRoom .room3 = true ∧ (s.room .room3).st = .idle
           ∧ (∀ c ∈ roomChannels .room3, s.usable c = true)
           ∧ firstCode [(s.keyOn, (4 : Byte)), (s.arb.lowVoltage, 5), (s.frozen (.room .room3), 6), (s.brakeReleased, 1)]
             = some 1)
      ∧ (let s := withWind bus fun w => { w with lockout := true }
         s.ready ∧ s.straps.awning = true ∧ s.aw.st = .idle ∧ s.aw.known = true ∧ s.usable .awning = true
           ∧ firstCode [(s.keyOn, (4 : Byte)), (s.arb.lowVoltage, 5), (s.frozen .awning, 6), (s.brakeReleased, 1),
               (s.ignition, 3), (s.wind.lockout, 9)] = some 9)
      ∧ (let s := withGuard bus fun g => { g with freeze := .all true }
         s.ready ∧ s.straps.awning = true ∧ s.aw.st = .idle ∧ s.usable .awning = true
           ∧ firstCode [(s.keyOn, (4 : Byte)), (s.arb.lowVoltage, 5), (s.frozen .awning, 6)] = some 6) := by
  unfold State.ready; decide +kernel

/-- Room 0 of the parked coach with its pin withdrawn, its counts a lead of `n` apart. -/
def unpinned (n : Int) : State :=
  withSense bus fun q => { q with
    withdrawn := { made := true, run := 0 }, engaged := { made := false, run := 0 }, fore := { live := n, handed := n } }

/-- OUT, IN from half way and a POSITION, granted; OUT with the pin WITHDRAWN at a lead of 39 and of 40 counts; and IN with
both in-stops MADE and the pin WITHDRAWN. -/
theorem test_hyps_RoomMoveTaken :
    (bus.ready ∧ bus.roomClear .room0 (moveExtends .out 1600 0) ∧ (bus.room .room0).known = true
        ∧ (bus.sense .room0).pin ≠ .withdrawn ∧ bus.fits (bus.roomCapture .room0).draw)
      ∧ (let s := withSense bus fun q => { q with foreIn := { made := false, run := 0 }, fore := { live := 9, handed := 9 } }
         s.ready ∧ s.roomClear .room0 (moveExtends .inn 0 9) ∧ (s.room .room0).known = true
           ∧ (s.sense .room0).bothIn = false ∧ (s.sense .room0).pin ≠ .withdrawn ∧ s.fits (s.roomCapture .room0).draw)
      ∧ bus.roomClear .room0 (moveExtends .position 0 0)
      ∧ ∀ n ∈ [(39 : Int), 40], let s := unpinned n
          (s.ready ∧ s.roomClear .room0 true ∧ (s.room .room0).known = true ∧ (s.sense .room0).pin = .withdrawn
            ∧ s.fits (s.roomCapture .room0).draw ∧ s.roomStill .room0 ∧ s.holds (.room .room0) = false)
            ∧ (s.lead .room0 < (s.roomCapture .room0).run.faultLimit ↔ n = 39)
            ∧ s.roomClear .room0 false ∧ (s.sense .room0).bothIn = true ∧ (s.sense .room0).pin ≠ .engaged := by
  simp only [State.ready, State.roomClear_iff, State.fits, State.roomStill]
  decide +kernel

/-- 81 A granted of 160: a room's 80 A must wait, by 1 A. -/
def crowded (s : State) : State := withArb s fun a => { a with grants := [{ holder := .awning, cls := .awning, draw := 81 }] }

theorem test_hyps_RoomWaitsForSupply :
    (crowded (unpinned 0)).ready ∧ (crowded (unpinned 0)).inAndLocked .room0 = false
      ∧ (crowded (unpinned 0)).mustWait ((crowded (unpinned 0)).roomCapture .room0).draw
      ∧ (crowded (unpinned 0)).roomClear .room0 false ∧ (crowded (unpinned 0)).roomClear .room0 true
      ∧ ((crowded (unpinned 0)).room .room0).known = true := by
  simp only [State.ready, State.roomClear_iff, State.mustWait]
  decide +kernel

theorem test_hyps_ArrivalsAtOnce :
    (bus.ready ∧ bus.roomClear .room0 false ∧ bus.inAndLocked .room0 = true ∧ (bus.room .room0).known = true)
      ∧ (bus.awningClear false ∧ bus.stowed = true ∧ bus.aw.known = true) := by
  simp only [State.ready, State.roomClear_iff, State.awningClear_iff]
  decide +kernel

/-- With air suspension and without; with a full ring that reads level, and with one sample. -/
theorem test_hyps_LevelAutoTaken :
    (∀ s ∈ [lit, fullRing lit, { lit with straps := { lit.straps with airsusp := false } }],
      s.ready ∧ s.jacksClear s.levelChannels true true
        ∧ (s.filterFull = true → s.tiltWithin s.store.active.level.steepness = true))
      ∧ (lit.straps.airsusp = true ∧ lit.inputs.airDumped.level = false)
      ∧ (let s : State := { lit with straps := { lit.straps with airsusp := false } }
         s.straps.airsusp = false ∧ s.fits s.jackCapture.draw)
      ∧ (fullRing lit).filterFull = true := by
  simp only [State.ready, State.jacksClear_iff, State.fits]
  decide +kernel

/-- JACKS down, jack LF at 6 mm and the others at 5. -/
def down : State :=
  withJacks (withFe lit fun f => { f with
    jacks := (PerJack.tab fun j => { f.jacks.get j with stroke := some (if j = .lf then 6 else 5) }) })
    fun j => { j with st := .idle .down }

theorem test_hyps_LevelStowTaken :
    (lit.ready ∧ lit.jacksClear lit.levelChannels false true ∧ lit.jk.st = .idle .retracted)
      ∧ (down.ready ∧ down.jacksClear down.levelChannels false true ∧ down.jk.st ≠ .idle .retracted
        ∧ down.fits down.jackCapture.draw ∧ .lf ∈ down.presentJacks ∧ down.retracted .lf = false
        ∧ down.retracted .rf = true) := by
  simp only [State.ready, State.jacksClear_iff, State.fits]
  decide +kernel

/-- Out by 3 mm from 0, in by 3 mm from 6, with a value beyond the range and one below it. -/
theorem test_hyps_JogTaken :
    ∀ p ∈ [(lit, (3 : Half), true), (lit, 0x7FFF, true), (down, 3, false), (down, 0x8000, false)],
      let s := p.1
      let target := s.jogTarget p.2.1
      decide (s.strokeD .lf < target) = p.2.2 ∧ s.ready ∧ s.straps.hasJack .lf = true
        ∧ s.jacksClear [.pump, .valve .lf] p.2.2 (!p.2.2) ∧ s.fits s.jackCapture.draw
        ∧ 2 < absInt (s.strokeD .lf - target) := by
  simp only [State.ready, State.jacksClear_iff, State.fits]
  decide +kernel

/-- The awning 9 counts from its target, both ways; and a HOME of an awning off its switch. -/
def unstowed (n : Int) : State :=
  withFe bus fun f => { f with stowed := { made := false, run := 0 }, awningCount := { live := n, handed := n } }

def awningGoal (s : State) (e : EndCode) (v : Half) : Int :=
  match e with
  | .out => s.store.active.awningCal.travel
  | _ => clampTravel s.store.active.awningCal.travel v

/-- The awning frozen on its way out to POSITION(100), cranked to the count given meanwhile. -/
def frozenAwning (n : Int) : State :=
  withGuard (awningIn (unstowed n) (.suspended .moving) .move fun a => { a with
    causes := { Causes.none with freeze := true }, target := .position 100, extend := true }) fun g => { g with
      freeze := g.freeze.set .awning true }

/-- The same part with its park brake released. -/
def braked (s : State) : State := withInputs s fun i => { i with parkSet := .first false }

/-- The awning at 20 counts, which its last sample still read as 0. -/
def cranked : State := withFe (unstowed 0) fun f => { f with awningCount := { live := 20, handed := 0 } }

theorem test_hyps_AwningDrives :
    (∀ p ∈ [(unstowed 0, EndCode.position, (9 : Half), true), (unstowed 0, .out, 0, true),
        (unstowed 18, .position, 9, false), (unstowed 18 |> braked, .position, 9, false), (cranked |> braked, .position, 9, false)],
      let s := p.1
      s.ready ∧ s.fits s.awningCapture.draw ∧ p.2.1 ≠ .inn ∧ s.aw.known = true
        ∧ moveExtends p.2.1 (clampTravel s.store.active.awningCal.travel p.2.2.1) s.fe.awningCount.live = p.2.2.2
        ∧ s.awningClear p.2.2.2
        ∧ 8 < absInt (s.fe.awningCount.handed - awningGoal s p.2.1 p.2.2.1))
      ∧ ((unstowed 18).stowed = false ∧ (unstowed 18).awningClear false)
      ∧ (cranked.fe.awningCount.handed < 9 ∧ (braked cranked).inputs.parkSet.level = false)
      ∧ ∀ s ∈ [frozenAwning 91, frozenAwning 109, braked (frozenAwning 91)],
        s.aw.pendingStow = none ∧ s.ready ∧ s.straps.awning = true ∧ s.frozen .awning = true ∧ s.aw.st = .suspended .moving
          ∧ s.aw.causes = { Causes.none with freeze := true } ∧ s.aw.op = .move ∧ s.aw.targetCount = some 100
          ∧ 8 < absInt (s.fe.awningCount.handed - 100) := by
  simp only [State.ready, State.awningClear_iff, State.fits]
  decide +kernel

/-! ### HOLD, STOP, RESUME -/

theorem test_hyps_HoldRestartsTimers :
    (∀ s ∈ [roomIn bus (.work .moving) id, jacksIn lit (.work .jogging) id],
        s.ready ∧ maskWithin 6 0x3F = true ∧ s.jk.causes.holdLapse = false)
      ∧ (∀ r, ((roomIn bus (.work .moving) id).room r).causes.holdLapse = false)
      ∧ (∀ r, ((jacksIn lit (.work .jogging) id).room r).causes.holdLapse = false)
      ∧ (roomIn bus (.work .moving) id).roomHoldable .room0 = true := by
  refine ⟨?_, fun r => by cases r <;> rfl, fun r => by cases r <;> rfl, rfl⟩
  unfold State.ready; decide

/-- A room suspended on its way out by a lapsed hold, and one frozen with its hold lapsed or not; the lead at 39 counts. -/
theorem test_hyps_SuspendedRoomGoesOn :
    (let s := roomIn (unpinned 39) (.suspended .moving) fun x => { x with causes := { Causes.none with holdLapse := true } }
     s.ready ∧ s.straps.hasRoom .room0 = true ∧ (s.room .room0).st = .suspended .moving
       ∧ (s.room .room0).causes = { Causes.none with holdLapse := true } ∧ (s.room .room0).target = .out
       ∧ (s.room .room0).home = false ∧ (s.room .room0).foreStopped = false ∧ (s.room .room0).aftStopped = false
       ∧ s.lead .room0 < (s.room .room0).cap.run.faultLimit ∧ s.roomStill .room0)
      ∧ ∀ b ∈ [true, false],
        let s := withGuard (roomIn (unpinned 39) (.suspended .moving) fun x =>
          { x with causes := { Causes.none with freeze := true }, lapsed := b })
          fun g => { g with freeze := g.freeze.set (.room .room0) true }
        s.ready ∧ s.straps.hasRoom .room0 = true ∧ s.frozen (.room .room0) = true
          ∧ (s.room .room0).st = .suspended .moving ∧ (s.room .room0).causes = { Causes.none with freeze := true }
          ∧ (s.room .room0).target = .out ∧ (s.room .room0).home = false ∧ (s.room .room0).foreStopped = false
          ∧ (s.room .room0).aftStopped = false ∧ s.lead .room0 < (s.room .room0).cap.run.faultLimit ∧ s.roomStill .room0
          ∧ (s.room .room0).lapsed = b := by
  simp only [State.ready, State.roomStill]
  decide +kernel

/-- Each kind of group at work under a mask that names it, and a stow that a STOP leaves. -/
theorem test_hyps_StopAndResume :
    maskWithin 6 0x3F = true
      ∧ (let s := roomIn bus (.work .moving) id
         s.ready ∧ inMask 0x3F (.room .room0) = true ∧ s.straps.hasGroup (.room .room0) = true
           ∧ s.working (.room .room0) ∧ s.arb.waiting = [])
      ∧ (let s := jacksIn lit (.work .stowing) id
         s.ready ∧ inMask 0x3F .jacks = true ∧ s.straps.hasGroup .jacks = true ∧ s.working .jacks)
      ∧ (let s := awningIn bus (.work .moving) .move id
         s.ready ∧ inMask 0x3F .awning = true ∧ s.straps.hasGroup .awning = true ∧ s.working .awning ∧ s.aw.moving = true)
      ∧ (let s := awningIn bus (.work .stowing) .stow id
         s.ready ∧ s.aw.stowing = true ∧ s.waits .awning = false) := by
  simp only [State.ready, State.working]
  decide +kernel

/-! ### Circuit tests and power -/

/-- The channel under test, its group with it. -/
def testing (c : ChannelId) (left : Nat) (a : Option TestReading) : State :=
  match c.owner with
  | .jacks => withJacks { bus with test := some { chan := c, left := left, readingA := a } } fun j => { j with st := .testing .retracted }
  | .room r => let s : State := { bus with test := some { chan := c, left := left, readingA := a } }; s.setRoom r { s.room r with st := .testing }
  | .awning => withAwning { bus with test := some { chan := c, left := left, readingA := a } } fun x => { x with st := .testing }

/-- The first and the last channel, and a room's. -/
theorem test_hyps_CircuitTestRuns :
    ∀ c ∈ [ChannelId.pump, .pin .room3, .awning],
      (bus.ready ∧ bus.straps.hasChannel c = true ∧ bus.groupIdle c.owner = true ∧ bus.test = none
          ∧ bus.frozen c.owner = false ∧ bus.inputs.parkSet.level = true)
        ∧ (∀ left ∈ [100, 200], (testing c left none).power = .awake ∧ 100 ≤ left
          ∧ (testing c left none).test = some { chan := c, left := left, readingA := none })
        ∧ (let a : TestReading := { mA := 1000, mV := 1000, battery := 1260 }
           let s := testing c 100 (some a)
           s.power = .awake ∧ s.test = some { chan := c, left := 100, readingA := some a } ∧ s.straps.hasChannel c = true
             ∧ s.groupIdle c.owner = false ∧ s.aw.pendingStow = none) := by
  unfold State.ready; decide

theorem test_hyps_CircuitTestRuns_still : ¬ (testing .pump 100 none).working .jacks
    ∧ ¬ (testing (.pin .room3) 100 none).working (.room .room3) ∧ ¬ (testing .awning 100 none).working .awning := by
  simp only [State.working]; decide

/-- Idle, not idle, and idle with the awning out; a DORMANT reply on its way of a part that may rest and of one that may not. -/
theorem test_hyps_RestAndResetAnswered :
    (bus.ready ∧ (∀ g, bus.straps.hasGroup g = true → bus.groupIdle g = true) ∧ bus.arb.grants = []
        ∧ bus.store.job = none ∧ bus.test = none ∧ bus.stowed = true ∧ bus.link.ignitionSeen = false)
      ∧ ((roomIn bus (.work .moving) id).ready ∧ (roomIn bus (.work .moving) id).straps.hasGroup (.room .room0) = true
        ∧ (roomIn bus (.work .moving) id).groupIdle (.room .room0) = false)
      ∧ ((unstowed 0).ready ∧ (∀ g, (unstowed 0).groupIdle g = true) ∧ (unstowed 0).straps.awning = true
        ∧ (unstowed 0).stowed = false)
      ∧ (∀ s, (sending s .dormant).power = s.power ∧ ∃ f, (sending s .dormant).link.tx = some f ∧ f.after = .dormant) := by
  refine ⟨⟨bus_ready, ?_, rfl, rfl, rfl, rfl, rfl⟩, ⟨⟨rfl, rfl, rfl⟩, rfl, rfl⟩, ⟨⟨rfl, rfl, rfl⟩, ?_, rfl, rfl⟩,
    fun s => ⟨rfl, _, rfl, rfl⟩⟩
  · rintro (_ | r | _) _ <;> (try cases r) <;> rfl
  · rintro (_ | r | _) <;> (try cases r) <;> rfl

/-- Dormant with a room whose fore drive is 25 counts out behind a made in-stop, one whose aft drive is at 0 behind an open
one, one that agrees, at the last count that does; an awning that disagrees, and one that agrees. -/
theorem test_hyps_PartWakes :
    let s1 := ((unstowed 25).setSense .room2 { (unstowed 25).sense .room2 with aft := { live := -24, handed := -24 } }).emptyRing
    let s : State := { withSense s1 fun q => { q with fore := { live := 25, handed := 25 } } with power := .dormant }
    let x : SampleSet := { parked with rooms := parked.rooms.set .room1 { foreIn := true, aftIn := false, withdrawn := false, engaged := true } }
    s.power = .dormant ∧ (∀ g, s.groupIdle g = true) ∧ s.arb.grants = [] ∧ s.arb.waiting = [] ∧ s.link.slot = none
      ∧ s.ending = false ∧ s.straps.hasRoom .room1 = true
      ∧ ((x.rooms.get .room0).foreIn = true ∧ 24 < absInt (s.sense .room0).fore.live)
      ∧ ((x.rooms.get .room1).foreIn = true ∧ absInt (s.sense .room1).fore.live ≤ 24)
      ∧ ((x.rooms.get .room1).aftIn = false ∧ (s.sense .room1).aft.live ≤ 0)
      ∧ (s.straps.hasRoom .room2 = true ∧ (x.rooms.get .room2).foreIn = true ∧ (x.rooms.get .room2).aftIn = true
        ∧ absInt (s.sense .room2).fore.live ≤ 24 ∧ absInt (s.sense .room2).aft.live = 24)
      ∧ (s.straps.awning = true ∧ x.stowed = true ∧ 24 < absInt s.fe.awningCount.live)
      ∧ (0 < s.fe.awningCount.live ∧ s.inputs.ignition.level = false ∧ s.inputs.parkSet.level = true)
      ∧ (x.tilt = some (0, 0) ∧ s.fe.ring = []) := by
  refine ⟨rfl, ?_, rfl, rfl, rfl, rfl, rfl, ?_⟩
  · rintro (_ | r | _) <;> (try cases r) <;> rfl
  · decide

/-- R183: the sixteenth set and the twelfth window after a WAKE, the first set being 20 ms after it. -/
theorem test_wake_fills_in_time :
    let t := after (.wake 5 parked) { bus.emptyRing with power := .dormant }
    t.fe.ring.length = 1 ∧ 20 + (16 - t.fe.ring.length) * t.clock.sample = 320 ∧ 20 + t.clock.wind + 11 * 250 = 3000 := by
  decide

/-- The fifth differing sample of the ignition has been taken. -/
theorem test_hyps_PartWakes_ignition :
    let s : State := { withInputs bus fun i => { i with ignition := { i.ignition with run := 5 } } with power := .dormant }
    s.power = .dormant ∧ s.inputs.ignition.level = false ∧ 5 ≤ s.inputs.ignition.run := by decide

theorem test_hyps_PowerOnStartsUp :
    bus.store.job = none ∧ (13 < itemCount (byteNum 0) ∧ 2 < itemCount (byteNum 7)) ∧ (parked.stowed = true ∧ parkedRaw.ignition = false ∧ parkedRaw.parkSet = true)
      ∧ ∀ key : Bool,
        let x : SampleSet := { parked with stowed := false }
        let raw : RawInputs := { parkedRaw with parkSet := false, keyOff := key }
        fullPins.awning = true ∧ x.stowed = false ∧ (raw.ignition = true ∨ raw.parkSet = false) ∧ raw.keyOff = key := by
  decide

theorem test_hyps_PowerLossKeepsTheStore :
    (bus.power ≠ .off ∧ bus.store.job = none)
      ∧ ((busy (.item 9 0 0) 1).power ≠ .off ∧ 9 < 10 ∧ (busy (.item 9 0 0) 1).store.job = some (.item 9 0 0, 1))
      ∧ (busy (.lock 3) 1).store.job = some (.lock 3, 1) ∧ (busy (.tilt 0 0) 1).store.job = some (.tilt 0 0, 1)
      ∧ (busy (.tables [] []) 1).store.job = some (.tables [] [], 1) := by decide

/-- A RESET reply on its way while a room works, and while nothing does. -/
theorem test_hyps_SoftResetStartsOver :
    (∀ s ∈ [bus, roomIn bus (.work .moving) id], (sending s .reset).power = .awake
        ∧ ∃ f, (sending s .reset).link.tx = some f ∧ f.after = .reset)
      ∧ (sending (roomIn bus (.work .moving) id) .reset).working (.room .room0)
      ∧ ¬ (sending bus .reset).working (.room .room0)
      ∧ ((sending (awningIn bus (.suspended .moving) .move id) .reset).working .awning ∧ bus.straps.awning = true
        ∧ ¬ (sending bus .reset).working .awning) := by
  refine ⟨?_, by simp only [State.working]; decide, by simp only [State.working]; decide, by simp only [State.working]; decide⟩
  intro s h
  simp only [List.mem_cons, List.not_mem_nil, or_false] at h
  rcases h with rfl | rfl <;> exact ⟨rfl, _, rfl, rfl⟩

/-- A write of each kind in flight at the end of a RESET reply; none; the last item of the last group of items. -/
theorem test_hyps_SoftResetStartsOver_writes :
    (∀ j ∈ [StoreJob.item 7 2 40, .tilt 5 (-5), .tables [] [], .lock 3], (sending (busy j 30) .reset).power = .awake
        ∧ (sending (busy j 30) .reset).store.job = some (j, 30))
      ∧ (2 < itemCount (byteNum 7) ∧ (sending bus .reset).store.job = none) := by decide

/-! ### Sensors and inputs -/

/-- Readings at and beyond each bound, a jack in sensor fault, a missing battery, an in-stop at its second MADE sample. -/
theorem test_hyps_SampleSetTaken :
    bus.power = .awake ∧ |(2500 : Int)| ≤ 2500 ∧ 2500 < |(-2501 : Int)|
      ∧ (let q : JackReading := { stroke := some (-20), pressure := some 270 }
         ∃ a b, q = { stroke := some a, pressure := some b } ∧ -20 ≤ a ∧ a ≤ 620 ∧ -10 ≤ b ∧ b ≤ 270)
      ∧ (let q : JackReading := { stroke := some 621, pressure := none }
         q.pressure = none ∧ ∃ a, q.stroke = some a ∧ (a < -20 ∨ 620 < a))
      ∧ bus.straps.hasJack .lf = true
      ∧ (let s := withSense bus fun q => { q with foreIn := { made := false, run := 1 } }
         s.straps.hasRoom .room0 = true ∧ (s.room .room0).st = .idle ∧ (parked.rooms.get .room0).foreIn = true
           ∧ (s.sense .room0).foreIn = { made := false, run := 1 })
      ∧ (bus.straps.awning = true ∧ bus.aw.st = .idle ∧ bus.driven .awning = false) := by
  refine ⟨rfl, by norm_num, by norm_num, ⟨_, _, rfl, ?_⟩, ⟨rfl, _, rfl, ?_⟩, ?_⟩ <;> decide

/-- A jack with its fifth valid pair, in a coach with its jacks down; counts at both bounds. -/
theorem test_hyps_SensorEventsCounted :
    (let s := withFe down fun f => { f with jacks := f.jacks.set .lf { f.jacks.lf with fault := true, validRun := 5 } }
     s.power = .awake ∧ s.straps.hasJack .lf = true ∧ (s.jackSense .lf).fault = true ∧ 5 ≤ (s.jackSense .lf).validRun
       ∧ s.jk.st = .idle .down)
      ∧ (bus.straps.hasRoom .room3 = true ∧ bus.straps.awning = true)
      ∧ max (-200) (min 4000 ((4000 : Int) + 1)) = 4000 ∧ max (-200) (min 4000 ((-200 : Int) - 1)) = -200 := by
  decide

theorem test_hyps_SwitchesFollowedAtRest :
    ∀ made : Bool,
      (let s := withSense bus fun q => { q with aftIn := { made := !made, run := 2 } }
       s.power = .awake ∧ s.straps.hasRoom .room0 = true ∧ (s.room .room0).st = .idle
         ∧ ((s.sense .room0).inStop .aft).made = !made ∧ 2 ≤ ((s.sense .room0).inStop .aft).run)
        ∧ (let s := withSense bus fun q => { q with withdrawn := { made := false, run := 2 }, engaged := { made := true, run := 2 } }
           s.straps.hasRoom .room0 = true ∧ (s.room .room0).st = .idle ∧ (s.sense .room0).pinChanges .withdrawn = true)
        ∧ (let s := withFe bus fun f => { f with stowed := { made := !made, run := 2 } }
           s.straps.awning = true ∧ s.aw.st = .idle ∧ s.driven .awning = false ∧ s.fe.stowed.made = !made
             ∧ 2 ≤ s.fe.stowed.run) := by
  decide

/-- Room 0 on its way in with its fore in-stop about to change: a HOME or a MOVE, the aft drive's count, mode and in-stop. -/
def atInStop (home : Bool) (aft : Int) (m : ChanMode) (aftIn : Bool) : State :=
  withSense (withMode (withMode (withRoom (roomIn bus (.work .moving) id) fun x => { x with target := .inn, home := home })
    (.drive .room0 .fore) (.driven .second 50)) (.drive .room0 .aft) m) fun q => { q with
      foreIn := { made := false, run := 2 }, aftIn := { made := aftIn, run := 0 }, aft := { live := aft, handed := aft } }

/-- A room about to move out, one that settles in, and one whose fore in-stop is made: of a MOVE with the aft drive 39 and 40
counts out, of a HOME, and as the last of the two; an awning homing. -/
theorem test_hyps_SwitchesEndTravel :
    (let s := withSense (roomIn bus (.work .preparing) id) fun q => { q with
       withdrawn := { made := false, run := 2 }, engaged := { made := true, run := 2 }
       fore := { live := 39, handed := 39 } }
     s.power = .awake ∧ s.straps.hasRoom .room0 = true ∧ (s.room .room0).st = .work .preparing
       ∧ (s.sense .room0).pinChanges .withdrawn = true ∧ (s.room .room0).home = false ∧ (s.room .room0).target = .out
       ∧ (s.room .room0).foreStopped = false ∧ (s.room .room0).aftStopped = false
       ∧ s.lead .room0 < (s.room .room0).cap.run.faultLimit)
      ∧ (let s := withSense (roomIn bus (.work .settling) id) fun q => { q with engaged := { made := false, run := 2 } }
         (s.room .room0).st = .work .settling ∧ (s.sense .room0).pinChanges .engaged = true)
      ∧ (∀ p ∈ [(false, (39 : Int), ChanMode.driven .second 80, false), (false, 40, .driven .second 80, false),
          (true, 40, .driven .second 50, false), (false, 0, .off, true)],
         let s := atInStop p.1 p.2.1 p.2.2.1 p.2.2.2
         s.power = .awake ∧ s.straps.hasRoom .room0 = true ∧ (s.room .room0).st = .work .moving
           ∧ (s.room .room0).target = .inn ∧ s.driven (.drive .room0 .fore) = true
           ∧ ((s.sense .room0).inStop .fore).made = false ∧ 2 ≤ ((s.sense .room0).inStop .fore).run
           ∧ (s.room .room0).home = p.1 ∧ (s.chan (.drive .room0 (Drive.fore).other)).mode = p.2.2.1
           ∧ ((s.sense .room0).inStop (Drive.fore).other).reads = p.2.2.2
           ∧ ((s.room .room0).cap.run.faultLimit ≤ |((s.sense .room0).count (Drive.fore).other).handed| ↔ p.2.1 = 40))
      ∧ (let s := withFe (withMode (awningIn bus (.work .moving) .home id) .awning (.driven .second 50)) fun f =>
           { f with stowed := { made := false, run := 2 } }
         s.straps.awning = true ∧ s.fe.stowed.made = false ∧ 2 ≤ s.fe.stowed.run ∧ s.driven .awning = true
           ∧ s.working .awning ∧ s.aw.target = .inn) := by
  simp only [State.working, ← Int.natCast_natAbs]
  decide +kernel

/-- Every input with five differing samples. -/
def allDiffer (s : State) : State :=
  let f := fun (l : InputLine) => { l with run := 5 }
  withInputs s fun i =>
    { parkSet := f i.parkSet, ignition := f i.ignition, engine := f i.engine, charging := f i.charging
      airDumped := f i.airDumped, keyOff := f i.keyOff }

/-- The other value of every input, with five samples that differ from it. -/
def otherInputs : State :=
  let n := fun (b : Bool) => ({ level := b, latch := b, run := 5 } : InputLine)
  withInputs bus fun _ =>
    { parkSet := n false, ignition := n true, engine := n true, charging := n true, airDumped := n true, keyOff := n false }

theorem test_hyps_InputsDebounced :
    (let i := (allDiffer bus).inputs
     (allDiffer bus).power ≠ .off ∧ i.parkSet.level = true ∧ 5 ≤ i.parkSet.run ∧ i.ignition.level = false
       ∧ 5 ≤ i.ignition.run ∧ 5 ≤ i.engine.run ∧ 5 ≤ i.charging.run ∧ 5 ≤ i.airDumped.run ∧ i.keyOff.level = true
       ∧ 5 ≤ i.keyOff.run)
      ∧ (let i := otherInputs.inputs
         otherInputs.power ≠ .off ∧ i.parkSet.level = false ∧ 5 ≤ i.parkSet.run ∧ i.ignition.level = true
           ∧ 5 ≤ i.ignition.run ∧ i.keyOff.level = false ∧ 5 ≤ i.keyOff.run) := by
  decide

/-- Each input about to take its permit away, over an operation of each kind that needs it. -/
theorem test_hyps_LostPermitsEndOperations :
    (let s := allDiffer (roomIn bus (.work .moving) id)
     s.power = .awake ∧ s.inputs.parkSet.level = true ∧ 5 ≤ s.inputs.parkSet.run ∧ s.inputs.keyOff.level = true
       ∧ 5 ≤ s.inputs.keyOff.run ∧ s.straps.hasGroup (.room .room0) = true ∧ s.working (.room .room0))
      ∧ (let s := allDiffer (awningIn bus (.work .moving) .move fun a => { a with extend := true })
         s.inputs.parkSet.level = true ∧ 5 ≤ s.inputs.parkSet.run ∧ s.straps.awning = true ∧ s.awningExtending = true
           ∧ s.aw.op ≠ .stow
           ∧ s.inputs.ignition.level = false ∧ 5 ≤ s.inputs.ignition.run ∧ s.waits .awning = false
           ∧ s.working .awning)
      ∧ (let s := allDiffer (withMode (awningIn bus (.work .moving) .move id) .awning (.driven .first 100))
         s.inputs.parkSet.level = true ∧ 5 ≤ s.inputs.parkSet.run ∧ s.aw.moving = true ∧ s.aw.extend = false
           ∧ s.drivenOut .awning = true ∧ s.aw.op ≠ .stow)
      ∧ (let s := allDiffer (awningIn bus (.work .stowing) .stow fun a => { a with stowCause := some .wind })
         s.inputs.parkSet.level = true ∧ s.inputs.keyOff.level = true ∧ s.aw.stowing = true ∧ s.waits .awning = false)
      ∧ (let s := allDiffer (jacksIn lit (.work (.levelling .airDump)) id)
         s.inputs.ignition.level = true ∧ 5 ≤ s.inputs.ignition.run ∧ s.working .jacks ∧ s.arb.waiting = []
           ∧ s.inputs.airDumped.level = false ∧ 5 ≤ s.inputs.airDumped.run ∧ s.straps.airsusp = true
           ∧ s.jk.st = .work (.levelling .airDump) ∧ s.fits s.jk.cap.draw) := by
  simp only [State.working, State.fits]
  decide

/-- The air dump lost past AIR_DUMP and in it; ignition changes with nothing that needs it. -/
theorem test_hyps_LostPermitsEndOperations_rest :
    (∀ st ∈ [LevelPhase.touchdown, .airDump],
      let s := withInputs (jacksIn lit (.work (.levelling st)) id) fun i =>
        { i with airDumped := { level := true, latch := true, run := 5 } }
      s.power = .awake ∧ s.inputs.airDumped.level = true ∧ 5 ≤ s.inputs.airDumped.run ∧ s.straps.airsusp = true
        ∧ (s.needsDumped = true ↔ st = .touchdown))
      ∧ (let s := allDiffer { bus with straps := { bus.straps with awning := false } }
         s.inputs.ignition.level = false ∧ 5 ≤ s.inputs.ignition.run ∧ s.straps.awning = false
           ∧ s.awningExtending = false)
      ∧ ¬ (allDiffer lit).working .jacks := by
  simp only [State.working]
  decide

/-- The key about to go off with a stow pending: the awning out and free, stowed, busy, frozen, its channel unusable. -/
theorem test_hyps_KeyOffTakesUpTheStow :
    let s := withAwning (allDiffer (withInputs (unstowed 500) fun i => { i with keyOff := .first false })) fun a =>
      { a with pendingStow := some .wind }
    let stowed := withFe s fun f => { f with stowed := { made := true, run := 0 } }
    (s.power = .awake ∧ s.inputs.keyOff.level = false ∧ 5 ≤ s.inputs.keyOff.run ∧ s.aw.pendingStow = some .wind
        ∧ s.aw.st = .idle ∧ s.frozen .awning = false ∧ s.usable .awning = true ∧ s.stowed = false ∧ s.atRest .awning)
      ∧ (stowed.aw.pendingStow ≠ none ∧ stowed.aw.st = .idle ∧ stowed.stowed = true)
      ∧ (withAwning s fun a => { a with pendingStow := none }).aw.pendingStow = none
      ∧ (awningIn s .testing .move id).aw.st ≠ .idle
      ∧ (withGuard s fun g => { g with freeze := g.freeze.set .awning true }).frozen .awning = true
      ∧ ({ s with health := s.health.set .awning { Health.initial with result := .short } } : State).usable .awning = false := by
  simp only [State.atRest]
  decide

/-! ### Supply and channels -/

/-- A grant of `d` A to a moving room, the measurements complete, the level as given. -/
def supplied (d level : Nat) : State :=
  withArb (roomIn bus (.work .moving) id) fun a => { a with
    grants := [{ holder := .room .room0, cls := .room, draw := d }], level := level, sagRun := 26, recRun := 251 }

/-- At level 0: 120 A stay within the degraded budget of 120, 121 do not; at level 3 nothing rises; at 1 it falls. -/
theorem test_hyps_BudgetFollowsTheSupply :
    ((supplied 120 0).power = .awake ∧ (supplied 120 0).arb.grants ≠ [] ∧ 26 ≤ (supplied 120 0).arb.sagRun
        ∧ (supplied 120 0).arb.level < 3 ∧ (supplied 120 0).arb.waiting = []
        ∧ (supplied 120 0).grantSum ≤ budgetOf (supplied 120 0).arb.base ((supplied 120 0).arb.level + 1))
      ∧ ((supplied 121 0).arb.grants = [{ holder := .room .room0, cls := .room, draw := 121 }]
        ∧ budgetOf (supplied 121 0).arb.base ((supplied 121 0).arb.level + 1) < 121
        ∧ ((supplied 121 0).room .room0).st = .work .moving)
      ∧ 3 ≤ (supplied 40 3).arb.level
      ∧ (251 ≤ (supplied 120 1).arb.recRun
        ∧ (supplied 120 1).grantSum ≤ budgetOf (supplied 120 1).arb.base ((supplied 120 1).arb.level - 1))
      ∧ ((allDiffer bus).arb.waiting = [] ∧ 5 ≤ (allDiffer bus).inputs.charging.run ∧ 5 ≤ (allDiffer bus).inputs.engine.run
        ∧ (allDiffer bus).grantSum ≤ budgetOf 240 0) := by
  decide

/-- Rooms 1 and 2 suspended in MOVING with the causes given, their entries of 20 A marked as suspended before, and an entry of
`d` A of the awning behind them. -/
def queuing (s : State) (c : Causes) (d : Nat) : State :=
  let f := fun (t : State) (r : RoomId) => t.setRoom r { t.room r with st := .suspended .moving, causes := c, target := .out }
  let e := fun (r : RoomId) => ({ holder := .room r, cls := .room, draw := 20, before := true } : Waiting)
  withArb (f (f s .room1) .room2) fun a => { a with
    waiting := [e .room1, e .room2, { holder := .awning, cls := .awning, draw := d, before := false }] }

/-- The two rooms fit exactly and the awning's 1 A does not, at a rise of the level, of the base and at a release; then one
room that drives again or withdraws its pin, and an entry that alone does not fit. -/
theorem test_hyps_BudgetFollowsTheSupply_walk :
    let c : Causes := { Causes.none with supply := true, holdLapse := true }
    let recovers := queuing (supplied 120 1) c 1
    let starts := queuing (withInputs (supplied 200 0) (allDiffer bus |>.inputs |> fun i _ => i)) c 1
    let stops := queuing (supplied 160 0) c 121
    (recovers.grantSum + 40 = budgetOf recovers.arb.base (recovers.arb.level - 1) ∧ 251 ≤ recovers.arb.recRun
        ∧ recovers.budget < budgetOf recovers.arb.base (recovers.arb.level - 1))
      ∧ (starts.grantSum + 40 = budgetOf 240 starts.arb.level ∧ starts.budget < budgetOf 240 starts.arb.level
        ∧ 5 ≤ starts.inputs.engine.run ∧ starts.inputs.engine.level = false)
      ∧ ((stops.arb.grants.filter fun e => decide (e.holder ≠ .room .room0)) = [] ∧ stops.budget < 40 + 121
        ∧ stops.straps.hasRoom .room0 = true ∧ (stops.room .room0).st.work? ≠ none ∧ stops.holds (.room .room0) = true
        ∧ stops.waits (.room .room0) = false ∧ stops.power = .awake ∧ stops.link.slot = none ∧ stops.ending = false)
      ∧ ((recovers.room .room1).st = .suspended .moving ∧ (recovers.room .room1).causes = c)
      ∧ (let s := queuing (supplied 120 1) { Causes.none with supply := true } 1
         (s.room .room1).st = .suspended .moving ∧ (s.room .room1).causes = { Causes.none with supply := true }
           ∧ (s.room .room1).target = .out ∧ (s.room .room1).home = false ∧ (s.room .room1).foreStopped = false
           ∧ (s.room .room1).aftStopped = false ∧ s.lead .room1 < (s.room .room1).cap.run.faultLimit)
      ∧ (let s := roomIn bus (.work .waitSupply) id
         (s.room .room0).st = .work .waitSupply ∧ (s.room .room0).target ≠ .inn ∧ (s.sense .room0).pin ≠ .withdrawn) := by
  decide +kernel

theorem test_hyps_LowVoltageEndsOperations :
    (∀ s ∈ [roomIn bus (.work .moving) id, awningIn bus (.work .moving) .move id, awningIn bus (.work .stowing) .stow id],
      let t := withArb s fun a => { a with entRun := 51 }
      t.power = .awake ∧ t.arb.lowVoltage = false ∧ 51 ≤ t.arb.entRun ∧ t.waits .awning = false)
      ∧ ((roomIn bus (.work .moving) id).working (.room .room0) ∧ (awningIn bus (.work .moving) .move id).working .awning
        ∧ (awningIn bus (.work .moving) .move id).aw.moving = true
        ∧ (awningIn bus (.work .stowing) .stow id).aw.stowing = true)
      ∧ (let t := withArb bus fun a => { a with lowVoltage := true, exitRun := 251 }
         t.arb.lowVoltage = true ∧ 251 ≤ t.arb.exitRun) := by
  simp only [State.working]
  decide

theorem test_hyps_ReadingsCounted :
    let s := withMode bus .pump (.driven .first 100)
    s.power = .awake ∧ (s.straps.hasChannel .pump = true ∧ (s.chan .pump).mode = .driven .first 100)
      ∧ s.driven .awning = false ∧ ({ s.straps with awning := false } : Straps).hasChannel .awning = false := by
  decide

/-- A driven drive with its measurements complete, its count `n`. -/
def drivenRoom (n : Int) : State :=
  let c := ChannelId.drive .room0 .fore
  let s := withMode (withMode (roomIn bus (.work .moving) id) c (.driven .first 90)) (.drive .room0 .aft) (.driven .first 90)
  withSense (s.setChan c { s.chan c with tripRun := 5, openRun := 61, stallRun := 31 }) fun q => { q with
    fore := { live := n, handed := n }, aft := { live := n, handed := n } }

/-- Its aft drive stopped at the count given. -/
def lastDrive (n aft : Int) : State :=
  withSense (withMode (withRoom (drivenRoom n) fun x => { x with aftStopped := true }) (.drive .room0 .aft) .off) fun q => { q with
    aft := { live := aft, handed := aft } }

/-- Outside the out-stop window by one count, and at both its ends, with the partner driven, stopped, and 40 counts behind; a
channel of each other kind of owner. -/
theorem test_hyps_ChannelEventsAct :
    (∀ n ∈ [(1575 : Int), 1576, 1624, 1625], let s := drivenRoom n
      s.power = .awake ∧ s.driven (.drive .room0 .fore) = true ∧ s.working (.room .room0)
        ∧ 5 ≤ (s.chan (.drive .room0 .fore)).tripRun ∧ 61 ≤ (s.chan (.drive .room0 .fore)).openRun
        ∧ 31 ≤ (s.chan (.drive .room0 .fore)).stallRun ∧ (s.room .room0).st = .work .moving
        ∧ (s.room .room0).target = .out ∧ (s.room .room0).home = false
        ∧ (s.chan (.drive .room0 .aft)).mode = .driven .first 90
        ∧ s.lead .room0 < (s.room .room0).cap.run.faultLimit
        ∧ ((s.room .room0).cap.cal.travel - (s.room .room0).cap.cal.endWindow ≤ n
            ∧ n ≤ (s.room .room0).cap.cal.travel + (s.room .room0).cap.cal.endWindow ↔ n = 1576 ∨ n = 1624))
      ∧ (∀ aft ∈ [(1585 : Int), 1584], let s := lastDrive 1624 aft
         s.driven (.drive .room0 .fore) = true ∧ s.driven (.drive .room0 (Drive.fore).other) = false
           ∧ (s.room .room0).stopped (Drive.fore).other = true ∧ 31 ≤ (s.chan (.drive .room0 .fore)).stallRun
           ∧ (s.room .room0).st = .work .moving ∧ (s.room .room0).target = .out ∧ (s.room .room0).home = false
           ∧ (s.lead .room0 < (s.room .room0).cap.run.faultLimit ↔ aft = 1585))
      ∧ (let s := withMode (awningIn bus (.work .moving) .home id) .awning (.driven .second 50)
         let t := s.setChan .awning { s.chan .awning with stallRun := 31 }
         t.driven .awning = true ∧ t.working .awning ∧ 31 ≤ (t.chan .awning).stallRun)
      ∧ (let s := withMode (jacksIn lit (.work .stowing) id) .pump (.driven .first 100)
         let t := s.setChan .pump { s.chan .pump with tripRun := 5 }
         t.driven .pump = true ∧ t.working .jacks ∧ 5 ≤ (t.chan .pump).tripRun) := by
  simp only [State.working]
  decide +kernel

theorem test_hyps_ControlIntervalCorrects :
    let s := withRoom (drivenRoom 100) fun x => { x with ctrlLeft := some 50 }
    s.power = .awake ∧ (s.room .room0).st = .work .moving ∧ (s.room .room0).ctrlLeft = some 50
      ∧ (s.room .room0).home = false ∧ (s.chan (.drive .room0 .fore)).mode = .driven .first 90
      ∧ (s.chan (.drive .room0 .aft)).mode = .driven .first 90 := by
  decide +kernel

/-! ### Timers -/

/-- Running and suspended by FREEZE, a room and a jog. -/
theorem test_hyps_HoldTimerLapses :
    (∀ st ∈ [RoomState.work .moving, .suspended .moving], ∀ b : Bool,
      let s := roomIn bus st fun x => { x with causes := { Causes.none with freeze := b } }
      s.power = .awake ∧ (s.room .room0).holdLeft = some 300 ∧ (s.room .room0).st = st ∧ (s.room .room0).causes.freeze = b)
      ∧ (∀ st ∈ [JackState.work .jogging, .suspended .jogging], ∀ b : Bool,
        let s := jacksIn lit st fun j => { j with holdLeft := some 0, causes := { Causes.none with freeze := b } }
        s.jk.holdLeft = some 0 ∧ s.jk.st = st ∧ s.jk.causes.freeze = b) := by
  decide

/-- A room with every timer of it running, its drive driven and its pin not. -/
def timedRoom : State :=
  withRoom (drivenRoom 100) fun x => { x with resumeLeft := some 7, pinLeft := some 7 }

def timedJacks (w : JackWork) : State :=
  jacksIn lit (.work w) fun j => { j with resumeLeft := some 7, airLeft := some 7, waitLeft := some 7, suspLeft := some 7
                                          jog := some { jack := .rr, target := 0, runMs := 0 } }

def timedAwning : State :=
  withMode (awningIn bus (.work .moving) .move fun a => { a with waitLeft := some 7, suspLeft := some 7 }) .awning
    (.driven .second 100)

theorem test_hyps_TimersEndOperations :
    (timedRoom.power = .awake ∧ (timedRoom.room .room0).resumeLeft = some 7 ∧ (timedRoom.room .room0).pinLeft = some 7
        ∧ (timedRoom.room .room0).st = .work .moving ∧ ¬ timedRoom.roomStill .room0
        ∧ timedRoom.driven (.pin .room0) = false ∧ timedRoom.working (.room .room0) ∧ timedRoom.arb.waiting = [])
      ∧ ((timedJacks .stowing).power = .awake ∧ (timedJacks .stowing).jk.resumeLeft = some 7
        ∧ (timedJacks .stowing).jk.airLeft = some 7 ∧ (timedJacks .stowing).jk.waitLeft = some 7
        ∧ (timedJacks .stowing).jk.suspLeft = some 7 ∧ (timedJacks .stowing).jk.causes.freeze = false
        ∧ (timedJacks .stowing).working .jacks ∧ (timedJacks .stowing).jk.st = .work .stowing)
      ∧ (timedAwning.power = .awake ∧ timedAwning.driven .awning = true ∧ timedAwning.aw.waitLeft = some 7
        ∧ timedAwning.aw.suspLeft = some 7 ∧ timedAwning.aw.causes.freeze = false ∧ timedAwning.working .awning)
      ∧ (let s := withMode (timedJacks .jogging) (.valve .rr) (.driven .first 100)
         s.jk.st = .work .jogging ∧ s.jk.jog = some { jack := .rr, target := 0, runMs := 0 }
           ∧ s.driven (.valve .rr) = true ∧ s.working .jacks) := by
  simp only [State.working, State.roomStill]
  decide +kernel

/-- The three timers, with the filter full and not, the tilt at the band and one beyond it. -/
theorem test_hyps_TiltReadAtTheTimer :
    (∀ p ∈ [(30 : Int), 31, 60, 61],
      let s := withFe (fullRing lit) fun f => { f with pitch := p, roll := -p }
      s.power = .awake ∧ s.fe.ring.length = 16 ∧ (absInt s.fe.pitch ≤ s.jk.cap.level.band ↔ p = 30)
        ∧ (absInt s.fe.roll ≤ 2 * s.jk.cap.level.band ↔ p ≠ 61))
      ∧ lit.fe.ring.length ≠ 16
      ∧ (∀ n ∈ [1, 4, 5], let s := jacksIn (fullRing lit) (.work (.levelling .settle)) fun j =>
          { j with settleLeft := some 2000, passes := n }
        s.jk.settleLeft = some 2000 ∧ s.jk.st = .work (.levelling .settle) ∧ 1 ≤ s.jk.passes
          ∧ (s.jk.cap.level.maxPasses ≤ s.jk.passes ↔ n = 5))
      ∧ (let p : LightStep := { jack := .lf, made := 4, start := 0, mode := .settling }
         let s := withFe (jacksIn (fullRing lit) (.work (.levelling .loadCheck)) fun j =>
           { j with stepLeft := some 1, step := some p, touch := .all (some 0) }) fun f =>
             { f with jacks := PerJack.tab fun j => { f.jacks.get j with pressure := some (if j = .lf then 0 else 100) } }
         s.jk.stepLeft = some 1 ∧ s.jk.st = .work (.levelling .loadCheck) ∧ s.jk.step = some p ∧ p.made < 5
           ∧ s.isLight .lf = true ∧ s.stepFits .lf = true)
      ∧ (let s := withJacks (fullRing lit) fun j => { j with st := .idle .levelled, driftLeft := some 2000 }
         s.jk.driftLeft = some 2000 ∧ s.jk.st = .idle .levelled)
      ∧ (∀ j ∈ (fullRing lit).presentJacks, (fullRing lit).isLight j = false) := by
  decide +kernel

/-- A window of gust over the part, with the lockout key off or on. -/
def underWind (keyOff : Bool) (s : State) : State :=
  withInputs (withFe s fun f => { f with pulses := 5 }) fun i => { i with keyOff := .first keyOff }

/-- Wind at and below the gust threshold over an awning that is out and free, moving, under the key, stowing, under test, and
about to leave its switch; under the lockout, before its last quiet window and after it. -/
theorem test_hyps_WindWatched :
    (let s := withFe (unstowed 500) fun f => { f with pulses := 5 }
     s.power = .awake ∧ s.straps.awning = true ∧ s.wind.lockout = false
       ∧ s.store.active.awningRun.gustStow ≤ max 0 (min 600 ((s.fe.pulses : Int) * s.store.active.awningCal.pulseFactor))
       ∧ (∀ u ∈ s.guard.watches, u.contents.enabled = false) ∧ s.aw.st = .idle ∧ s.stowed = false
       ∧ s.inputs.keyOff.level = true ∧ s.frozen .awning = false ∧ s.usable .awning = true ∧ s.atRest .awning)
      ∧ (∀ key ∈ [true, false], let s := underWind key (awningIn (unstowed 500) (.work .moving) .move id)
         s.power = .awake ∧ s.straps.awning = true ∧ s.stowed = false ∧ s.aw.moving = true ∧ s.inputs.keyOff.level = key
           ∧ s.frozen .awning = false ∧ s.usable .awning = true ∧ (∀ u ∈ s.guard.watches, u.contents.enabled = false))
      ∧ (let s := underWind false (unstowed 500)
         s.aw.st = .idle ∧ s.stowed = false ∧ s.atRest .awning ∧ s.driven .awning = false ∧ s.inputs.keyOff.level = false)
      ∧ (underWind true (awningIn (unstowed 500) (.suspended .stowing) .stow id)).aw.stowing = true
      ∧ (underWind true (awningIn (unstowed 500) .testing .move id)).aw.st = .testing
      ∧ (let s := underWind true (awningIn bus (.work .waitSupply) .move fun a => { a with extend := true })
         s.stowed = true ∧ s.wind.lockout = false ∧ s.aw.moving = true ∧ s.aw.extend = true)
      ∧ (let s := withFe bus fun f => { f with pulses := 4 }
         ¬ s.store.active.awningRun.gustStow ≤ max 0 (min 600 ((s.fe.pulses : Int) * s.store.active.awningCal.pulseFactor))
           ∧ s.wind.ring.length + 1 < 12)
      ∧ (let s := withWind (withFe bus fun f => { f with pulses := 5 }) fun w =>
           { w with lockout := true, lockTime := 600, quiet := 2399 }
         s.wind.lockout = true ∧ s.wind.quiet < s.wind.lockTime * 4
           ∧ s.store.active.awningRun.gustStow ≤ max 0 (min 600 ((s.fe.pulses : Int) * s.store.active.awningCal.pulseFactor)))
      ∧ (let s := withWind bus fun w => { w with lockout := true, lockTime := 600, quiet := 2400 }
         s.power = .awake ∧ s.wind.lockout = true ∧ s.wind.lockTime * 4 ≤ s.wind.quiet) := by
  simp only [State.atRest]
  decide +kernel

/-! ### The receivers of a sample set -/

/-- Room 0 moving with both drives driven the same way, away from its in-stops, at the counts given. -/
def roomAt (target : Target) (fore aft : Int) (d : ChanDir) : State :=
  withSense (withMode (withMode (withRoom (roomIn bus (.work .moving) id) fun x => { x with target := target })
    (.drive .room0 .fore) (.driven d 50)) (.drive .room0 .aft) (.driven d 50)) fun q => { q with
      fore := { live := fore, handed := fore }, aft := { live := aft, handed := aft }
      foreIn := { made := false, run := 0 }, aftIn := { made := false, run := 0 } }

/-- A set that reads both in-stops of room 0 open and its pin withdrawn. -/
def midway : SampleSet :=
  { parked with rooms := parked.rooms.set .room0 { foreIn := false, aftIn := false, withdrawn := true, engaged := false } }

/-- Room 0 moving in under the awning at 200. -/
def kerbSide : State := withFe (roomAt .inn 1561 1561 .second) fun f => { f with awningCount := { live := 200, handed := 199 } }

theorem test_hyps_ReceiversActOnASet_envelope :
    let s := kerbSide
    let a := s.atSet midway
    s.power = .awake ∧ s.straps.hasGroup (.room .room0) = true ∧ s.working (.room .room0) ∧ s.arb.waiting = []
      ∧ ∃ e, s.guard.envelope[0]? = some e ∧ e.contents.enabled = true ∧ e.contents.subject = .room .room0
        ∧ e.contents.source = .awningCount ∧ e.contents.source.isPresent s.straps = true
        ∧ e.contents.direction ≠ .extend ∧ ChannelId.drive .room0 .fore ∈ s.motionChannels (.room .room0)
        ∧ (s.chan (.drive .room0 .fore)).drivenDir = some .second ∧ a.condHolds e.contents = true := by
  refine ⟨rfl, rfl, ?_, rfl, _, rfl, ?_⟩
  · simp only [State.working]; decide
  · decide +kernel

/-- A part with no enabled unit or entry. -/
def unguarded (s : State) : State :=
  withGuard s fun g => { g with envelope := g.envelope.map fun e => { e with contents := { e.contents with enabled := false } } }

/-- Overruns both ways by one count, a lead of 40, a POSITION met by both drives, within 4 counts and not, and by one. -/
theorem test_hyps_ReceiversActOnASet_room :
    (∀ p ∈ [(roomAt .out 1625 1625 .first, true), (roomAt .out 1624 1624 .first, false), (roomAt .inn (-25) (-25) .second, true),
        (roomAt .inn (-24) (-24) .second, false), (roomAt .out 100 140 .first, false),
        (roomAt (.position 800) 800 804 .first, false), (roomAt (.position 800) 800 805 .first, false),
        (unguarded (roomAt (.position 800) 800 790 .first), false)],
      let s := p.1
      let c := ((s.atSet midway).sense .room0).fore.handed
      let cal := (s.room .room0).cap.cal
      s.power = .awake ∧ s.straps.hasRoom .room0 = true ∧ (s.room .room0).st = .work .moving ∧ (s.room .room0).home = false
        ∧ ((s.atSet midway).sense .room0).foreIn = { made := false, run := 0 } ∧ s.waits (.room .room0) = false
        ∧ (s.chan (.drive .room0 .fore)).drivenDir ≠ none
        ∧ (cal.travel + cal.endWindow < c ∨ c < -cal.endWindow ↔ p.2 = true))
      ∧ (let s := roomAt .out 100 140 .first
         (s.room .room0).cap.run.faultLimit ≤ |((s.atSet midway).sense .room0).fore.handed - ((s.atSet midway).sense .room0).aft.handed|)
      ∧ (unguarded (roomAt (.position 800) 800 790 .first)).guardQuiet := by
  refine ⟨?_, ?_, ?_⟩
  · decide +kernel
  · simp only [← Int.natCast_natAbs]; decide +kernel
  · unfold State.guardQuiet; decide +kernel

/-- Overruns and arrivals of an awning MOVE, both ways, at the last count before each and at the first of it. -/
theorem test_hyps_ReceiversActOnASet_awning :
    ∀ p ∈ [(Target.out, (2450 : Int), ChanDir.first), (.out, 2451, .first), (.out, 2392, .first), (.position 500, 508, .second),
        (.inn, -51, .second)],
      let s := withFe (withMode (awningIn bus (.work .moving) .move fun a => { a with target := p.1 }) .awning (.driven p.2.2 100))
        fun f => { f with stowed := { made := false, run := 0 }, awningCount := { live := p.2.1, handed := p.2.1 } }
      let a := s.atSet { parked with stowed := false }
      s.power = .awake ∧ s.straps.awning = true ∧ s.working .awning ∧ s.aw.op = .move
        ∧ (s.chan .awning).drivenDir = some p.2.2 ∧ a.fe.awningCount.handed = p.2.1 ∧ a.fe.stowed = { made := false, run := 0 }
        ∧ (s.aw.cap.cal.travel + 50 < p.2.1 ↔ p.2.1 = 2451) := by
  simp only [State.working]
  decide +kernel

/-- A pin that engages, a fore in-stop that is made (of a MOVE whose aft drive is 40 counts out, and as the last of the two),
and a stowed switch that is made, each with the second sample of the set. -/
theorem test_hyps_ReceiversActOnASet_switches :
    (let s := withSense (roomIn bus (.work .settling) id) fun q => { q with engaged := { made := false, run := 1 } }
     s.power = .awake ∧ s.straps.hasRoom .room0 = true ∧ (s.room .room0).st = .work .settling
       ∧ ((s.atSet parked).sense .room0).pinChanges .engaged = true
       ∧ ∀ d ∈ [Drive.fore, .aft], (((s.atSet parked).sense .room0).inStop d).changes false = false)
      ∧ (∀ p ∈ [((40 : Int), ChanMode.driven .second 80, false), (0, .off, true)],
         let s := unguarded (withSense (atInStop false p.1 p.2.1 p.2.2) fun q => { q with
           foreIn := { made := false, run := 1 }, withdrawn := { made := true, run := 0 }, engaged := { made := false, run := 0 } })
         let a := s.atSet { parked with rooms := .all { foreIn := true, aftIn := p.2.2, withdrawn := true, engaged := false } }
         s.power = .awake ∧ s.straps.hasRoom .room0 = true ∧ (s.room .room0).st = .work .moving
           ∧ (s.room .room0).target = .inn ∧ (s.room .room0).home = false ∧ s.driven (.drive .room0 .fore) = true
           ∧ ((a.sense .room0).inStop .fore).changes true = true ∧ (a.sense .room0).pin ≠ .engaged
           ∧ ((a.sense .room0).inStop .aft).reads = p.2.2 ∧ s.waits (.room .room0) = false
           ∧ (s.driven (.drive .room0 .aft) = false ↔ p.1 = 0)
           ∧ ((s.room .room0).cap.run.faultLimit ≤ absInt ((a.sense .room0).count .aft).handed ↔ p.1 = 40))
      ∧ (unguarded (atInStop false 0 .off true)).guardQuiet
      ∧ (let s := withFe (withMode (awningIn bus (.work .moving) .home id) .awning (.driven .second 50)) fun f =>
           { f with stowed := { made := false, run := 1 } }
         s.straps.awning = true ∧ s.driven .awning = true ∧ s.working .awning ∧ s.aw.target = .inn
           ∧ (s.atSet parked).fe.stowed.changes true = true) := by
  simp only [State.working, State.guardQuiet]
  decide +kernel

/-- R131: the pin that engages and a unit that stops the room, at one set. Told first, the arrival stands in the record and
the unit fires on an idle group; told after the watches, or left to its row, it finds nothing left to end. -/
theorem test_arrival_before_or_after_the_watch :
    let s := watching .battery 1260 (.stopGroup (.room .room0))
      (withSense (roomIn bus (.work .settling) id) fun q => { q with engaged := { made := false, run := 1 } })
    let ended := fun (t : State) => ((t.sa.records.get (.room .room0)).map (·.reason), (t.guard.watches[3]?).map (·.hit))
    ended (after (.sampleInterval parked [.pin .room0]) s) = (some .arrived, some true)
      ∧ ended (after (.sampleInterval parked [.watches, .pin .room0]) s) = (some (.watch 3), some true)
      ∧ ended (after (.pinStateChange .room0 .engaged) (after (.sampleInterval parked []) s)) = (some (.watch 3), some true) := by
  decide +kernel

/-- JACKS at work with its grant, the valve of LF driven as given; and a set that reads every jack alike. -/
def jacksAt (w : JackWork) (m : ChanMode) (f : Levelling → Levelling) : State :=
  unguarded (withArb (withMode (jacksIn (fullRing lit) (.work w) f) (.valve .lf) m) fun a => { a with
    grants := [{ holder := .jacks, cls := .levelling, draw := 150 }] })

def jackSet (stroke pressure : Int) : SampleSet :=
  { parked with jacks := .all { stroke := some stroke, pressure := some pressure } }

/-- A tilt and a jack that fault under a run, and a retracted group. -/
theorem test_hyps_ReceiversActOnASet_faults :
    (let s := jacksAt (.levelling .settle) .off id
     s.power = .awake ∧ s.jk.st.isLevelAuto = true ∧ (s.atSet { parked with tilt := none }).fe.ring = [] ∧ s.working .jacks
       ∧ (s.jackSense .lf).fault = false ∧ ((s.atSet (jackSet 621 0)).jackSense .lf).fault = true
       ∧ s.straps.hasJack .lf = true)
      ∧ lit.jk.st = .idle .retracted := by
  simp only [State.working]
  decide +kernel

/-- Every clause of a run, a stow and a jog: pressures at and below the contact, strokes at S and below it, at the band's edge
and beyond it, a steep body and a level one. -/
theorem test_hyps_ReceiversActOnASet_jacks :
    let plan : LiftPlan := { target := .all 102, clamped := .all false }
    let drives := fun (m : ChanMode) (middle : Bool) => jacksAt (.levelling .drive) m fun j =>
      { j with plan := some plan, station := some .front, doneMiddle := middle, doneRear := middle }
    (∀ s ∈ [jacksAt (.levelling .touchdown) .off id, jacksAt (.levelling .touchdown) (.driven .first 100) fun j => { j with tdStarted := true },
        jacksAt (.levelling .touchdown) .off fun j => { j with tdDone := true, steepDone := true },
        drives (.driven .first 100) true, drives (.driven .second 100) false, jacksAt .stowing (.driven .second 100) id],
      s.power = .awake ∧ s.holds .jacks = true ∧ s.waits .jacks = false ∧ s.guardQuiet
        ∧ (∀ j ∈ s.presentJacks, s.jk.noGround.get j = false ∧ (s.jackSense j).fault = false)
        ∧ (∀ x ∈ [jackSet 100 15, jackSet 99 14, jackSet 460 14], (s.atSet x).fe.ring.length = 16
            ∧ (s.atSet x).anyJackFault = false ∧ |(s.atSet x).fe.pitch| ≤ s.jk.cap.level.steepness))
      ∧ (let s := jacksAt (.levelling .touchdown) (.driven .first 100) id
         s.jk.cap.level.contact ≤ (s.atSet (jackSet 100 15)).pressureD .lf
           ∧ ¬ s.jk.cap.level.contact ≤ (s.atSet (jackSet 100 14)).pressureD .lf
           ∧ s.jk.cap.geometry.strokeMax ≤ (s.atSet (jackSet 460 14)).strokeD .lf
           ∧ ¬ s.jk.cap.geometry.strokeMax ≤ (s.atSet (jackSet 459 14)).strokeD .lf)
      ∧ (let s := withFe (jacksAt (.levelling .touchdown) .off fun j => { j with tdDone := true }) fun f => { f with
           ring := List.replicate 16 (2000, 0) }
         s.jk.steepDone = false ∧ ¬ |(s.atSet { parked with tilt := some (2000, 0) }).fe.pitch| ≤ s.jk.cap.level.steepness)
      ∧ (let s := drives (.driven .first 100) true
         (s.atSet (jackSet 100 0)).targetOf .lf - 2 ≤ (s.atSet (jackSet 100 0)).strokeD .lf
           ∧ ¬ (s.atSet (jackSet 99 0)).targetOf .lf - 2 ≤ (s.atSet (jackSet 99 0)).strokeD .lf
           ∧ s.jk.doneStation .middle = true ∧ s.jk.doneStation .rear = true ∧ .lf ∈ stationJacks .front)
      ∧ (let s := jacksAt .stowing (.driven .second 100) id
         (s.atSet (jackSet 5 0)).retracted .lf = true ∧ (s.atSet (jackSet 6 0)).retracted .lf = false)
      ∧ (let s := jacksAt .jogging (.driven .second 100) fun j => { j with jog := some { jack := .lf, target := 98, runMs := 0 } }
         s.jk.st = .work .jogging ∧ (s.chan (.valve .lf)).drivenDir = some .second
           ∧ (s.atSet (jackSet 100 0)).strokeD .lf ≤ 98 + 2) := by
  simp only [State.guardQuiet, ← Int.natCast_natAbs]
  decide +kernel

/-- The load check of LF begun at 100 mm, 100 bar under every other jack: a step to 102 mm, its settle with the tilt awaited,
its retraction. -/
def loadChecked (mode : StepMode) (made : Nat) (wait : Bool) : State :=
  jacksAt (.levelling .loadCheck) .off fun j => { j with
    step := some { jack := .lf, made := made, start := 100, mode := mode }, tiltWait := wait, touch := .all (some 95) }

def lightSet (stroke pressure tilt : Int) : SampleSet :=
  { jackSet stroke 100 with
    jacks := (jackSet stroke 100).jacks.set .lf { stroke := some stroke, pressure := some pressure }, tilt := some (tilt, 0) }

/-- Every clause of a load check: strokes at the step's end and before it, LF light and not, its last step and one before it, a
tilt in the band and beyond it, the list empty and with a second light jack. -/
theorem test_hyps_ReceiversActOnASet_loadCheck :
    (∀ p ∈ [(StepMode.lifting, 0, false), (.settling, 4, true), (.settling, 5, true), (.settling, 0, false), (.retracting, 1, false)],
      let s := loadChecked p.1 p.2.1 p.2.2
      s.power = .awake ∧ s.holds .jacks = true ∧ s.waits .jacks = false ∧ s.guardQuiet
        ∧ s.jk.step = some { jack := .lf, made := p.2.1, start := 100, mode := p.1 } ∧ s.jk.tiltWait = p.2.2
        ∧ s.jk.lightList = []
        ∧ (∀ x ∈ [lightSet 100 29 0, lightSet 102 30 0, lightSet 101 100 0], (s.atSet x).fe.ring.length = 16
            ∧ (s.atSet x).anyJackFault = false))
      ∧ (let s := loadChecked .settling 4 true
         let t := withFe s fun f => { f with ring := List.replicate 16 (31, 0) }
         (s.atSet (lightSet 102 0 0)).strokeD .lf = 100 + 2 ∧ (s.atSet (lightSet 101 0 0)).strokeD .lf < 100 + 2
           ∧ (s.atSet (lightSet 102 27 0)).isLight .lf = false ∧ (s.atSet (lightSet 102 26 0)).isLight .lf = true
           ∧ (s.atSet (lightSet 102 26 0)).stepFits .lf = true
           ∧ |(s.atSet (lightSet 102 26 0)).fe.pitch| ≤ s.jk.cap.level.band
           ∧ ¬ |(t.atSet (lightSet 102 26 31)).fe.pitch| ≤ t.jk.cap.level.band)
      ∧ (let s := withJacks (loadChecked .retracting 1 false) fun j => { j with lightList := [.rf, .rr] }
         let x : SampleSet := { lightSet 100 100 0 with jacks := (jackSet 100 100).jacks.set .rf { stroke := some 100, pressure := some 0 } }
         s.jk.lightList = .rf :: [.rr] ∧ (s.atSet x).isLight .rf = true ∧ (s.atSet x).stepFits .rf = true
           ∧ (s.atSet x).strokeD .lf ≤ 100) := by
  simp only [State.guardQuiet, ← Int.natCast_natAbs]
  decide +kernel

/-! ### What every step keeps -/

theorem test_hyps_LocksAndStrapsStay :
    exec .anemometerPulse lockedStore = .next (after .anemometerPulse lockedStore)
      ∧ lockedStore.store.locks.getLsbD 3 = true := ⟨rfl, rfl⟩

theorem bus_buffersBounded : bus.buffersBounded := by unfold State.buffersBounded; decide

theorem bus_supplyFits : bus.supplyFits := by
  refine ⟨by decide, ?_, ⟨?_, by decide⟩, ⟨by decide, by decide, ?_⟩, fun _ => rfl⟩
  · intro e h; cases h
  · intro e h; cases h
  · intro j n h; cases h

theorem bus_claimSound : bus.claimSound := by
  refine ⟨by decide, fun h => absurd rfl h, fun r h => ?_, by decide, fun r h => ?_, ?_⟩
  · cases r <;> exact absurd rfl h
  · refine absurd ?_ h
    cases r <;> exact ⟨rfl, rfl, rfl⟩
  · refine ⟨fun h => absurd rfl h, fun h => absurd rfl h, fun h => by cases h⟩

theorem bus_stanceTrue : bus.stanceTrue := fun _ => by decide

/-- A state that meets the invariants and has a command in front of its queue. -/
theorem test_hyps_EveryStep :
    let s : State := { bus with pending := [.anemometerPulse] }
    s.tablesWhole ∧ s.buffersBounded ∧ s.supplyFits ∧ s.claimSound ∧ s.stanceTrue
      ∧ step s = .next (after .anemometerPulse bus) :=
  ⟨bus_tablesWhole, bus_buffersBounded, bus_supplyFits, bus_claimSound, bus_stanceTrue, rfl⟩

/-! ## The manual's worked figures and sequences -/

/-- The examples of the rounding in R5. -/
theorem test_rounding : divRound 1950 16 = 122 ∧ divRound (-24) 16 = -2 ∧ divRound 8 16 = 1
    ∧ clampInt (-2000) 2000 (divRound 33000 16) = 2000 := by decide

/-- JACKS at its first touchdown of chapter 2's worked plans, with the lift limit given. -/
def touchedDown (limit : Int) : State :=
  withFe (withJacks bus fun j => { j with
    touch := { lf := some 85, rf := some 92, lm := some 140, rm := some 151, lr := some 176, rr := some 188 }
    cap := { j.cap with geometry := { j.cap.geometry with liftLimit := limit } } })
    fun f => { f with pitch := 120, roll := -45 }

/-- Worked plans, L = 150 and L = 130: nothing clamped, the base given back by 9 mm in the second (R29, R30). -/
theorem test_plan_first_pass :
    (touchedDown 150).computePlan 1 =
        { target := { lf := 105, rf := 123, lm := 228, rm := 251, lr := 304, rr := 327 }, clamped := .all false }
      ∧ (touchedDown 130).computePlan 1 =
        { target := { lf := 96, rf := 114, lm := 219, rm := 242, lr := 295, rr := 318 }, clamped := .all false } := by
  decide +kernel

/-- Worked plan, L = 100: LR and RR clamped (R30). -/
theorem test_plan_clamped :
    (touchedDown 100).computePlan 1 =
      { target := { lf := 85, rf := 103, lm := 208, rm := 231, lr := 276, rr := 288 }
        clamped := { lf := false, rf := false, lm := false, rm := false, lr := true, rr := true } } := by
  decide +kernel

/-- Worked plan, the second pass (R28 to R30). -/
theorem test_plan_second_pass :
    let stop : PerJack Int := { lf := 104, rf := 124, lm := 228, rm := 250, lr := 305, rr := 326 }
    let s := withFe (touchedDown 150) fun f => { f with
      pitch := -36, roll := 10, jacks := PerJack.tab fun j => { f.jacks.get j with stroke := some (stop.get j) } }
    (s.computePlan 2).target = { lf := 139, rf := 157, lm := 243, rm := 262, lr := 308, rr := 326 } := by
  decide +kernel

/-- The duties of R60's table at leads 5, 7, 10, 15, 20 and 39. -/
theorem test_corrected_duties :
    ([5, 7, 10, 15, 20, 39] : List Int).map ((Room.initial true .inn).corrected 90) = [90, 86, 74, 54, 40, 40] := by decide

/-- Sustained wind of the worked figures: 998 / 12 = 83, the wind condition, and the lockout (R90, R91). -/
theorem test_sustained_wind :
    let s := withFe (withWind bus fun w => { w with ring := [84, 84, 90, 70, 84, 84, 90, 84, 70, 84, 90] })
      fun f => { f with pulses := 3 }
    let t := after .windWindow s
    t.wind.gust = 84 ∧ t.wind.sustained = some 83 ∧ t.wind.lockout = true ∧ t.aw.st = .idle := by decide +kernel

/-- A window of 22 pulses is clamped to 600 (R90). -/
theorem test_gust_clamped : (after .windWindow (withFe bus fun f => { f with pulses := 22 })).wind.gust = 600 := by
  decide +kernel

/-- R111's first example: ROOM0 then ROOM2 hold 80 A each; at level 1 ROOM2 is suspended. -/
theorem test_sag_suspends_latest_room :
    let s0 := withGuard (bus.setRoom .room2 { bus.room .room2 with st := .work .moving })
      fun g => { g with roomWork := (g.roomWork.set .room0 true).set .room2 true }
    let s := withArb (roomIn s0 (.work .moving) id) fun a => { a with
      sagRun := 26, grants := [{ holder := .room .room0, cls := .room, draw := 80 }, { holder := .room .room2, cls := .room, draw := 80 }] }
    let t := after .sagComplete s
    t.arb.grants = [{ holder := .room .room0, cls := .room, draw := 80 }]
      ∧ t.arb.waiting = [{ holder := .room .room2, cls := .room, draw := 80, before := true }]
      ∧ (t.room .room2).st = .suspended .moving ∧ t.sa.causes.budgetDegraded = true := by decide +kernel

/-- R111's second example: the engine stops with JACKS at 150 A and the stow at 18; JACKS is suspended. -/
theorem test_base_fall_spares_the_stow :
    let s := withArb (withInputs (jacksIn (awningIn lit (.work .stowing) .stow id) (.work .stowing) id) fun i =>
      { i with engine := { level := true, latch := true, run := 5 } })
      fun a => { a with base := 240, grants := [{ holder := .jacks, cls := .levelling, draw := 150 }, { holder := .awning, cls := .stow, draw := 18 }] }
    let t := after (.engineOrChargingChange false) s
    t.arb.base = 160 ∧ t.arb.grants = [{ holder := .awning, cls := .stow, draw := 18 }]
      ∧ t.jk.st = .suspended .stowing ∧ t.aw.st = .work .stowing := by decide +kernel

/-- The worked readings of chapter 7, each line in turn (R151). -/
theorem test_worked_readings :
    let r := fun (mA mV : Nat) (b : Int) => ({ mA := mA, mV := mV, battery := b } : TestReading)
    judgeTest (.valve .rf) 1100 (r 1000 6110 1260) (r 1000 6120 1260) = (.normal, some 6120)
      ∧ judgeTest (.drive .room2 .fore) 1100 (r 1000 12 1260) (r 1000 12 1260) = (.short, some 12)
      ∧ judgeTest (.pin .room1) 1100 (r 240 2400 1260) (r 240 2400 1260) = (.normal, some 10000)
      ∧ judgeTest (.pin .room2) 1100 (r 250 9000 1260) (r 250 9000 1260) = (.open, some 36000)
      ∧ judgeTest (.valve .rm) 1100 (r 1000 6300 1260) (r 1000 6300 1090) = (.testFailed, none)
      ∧ judgeTest (.drive .room2 .aft) 1100 (r 1000 450 1260) (r 1000 520 1260) = (.testFailed, none)
      ∧ judgeTest (.valve .rm) 1100 (r 14 11800 1260) (r 12 11800 1260) = (.open, some 65535) := by decide

/-- The channel numbers the worked readings use (R140). -/
theorem test_channel_numbers : [ChannelId.valve .rf, .drive .room2 .fore, .pin .room1, .pin .room2, .valve .rm,
    .drive .room2 .aft].map ChannelId.num = [2, 11, 16, 17, 4, 12] := by decide

/-- The kerb side (chapter 6): with the awning at 2398 a MOVE IN of ROOM0 is FORBIDDEN by entry 0, and with ROOM0 at 1540
an awning MOVE OUT by entry 1 (R124). -/
theorem test_factory_entries_forbid :
    let out := withSense (withRoom bus fun x => { x with endPos := .out }) fun q => { q with
      fore := { live := 1600, handed := 1600 }, aft := { live := 1600, handed := 1600 }, foreIn := { made := false, run := 0 }
      aftIn := { made := false, run := 0 } }
    let s := withFe out fun f => { f with awningCount := { live := 2398, handed := 2398 } }
    let u := withSense out fun q => { q with fore := { live := 1540, handed := 1540 } }
    (s.handle parked (.roomMove .room0 .inn 0)).1 = .forbidden 0
      ∧ (u.handle parked (.awningMove .out 0)).1 = .forbidden 1
      ∧ (out.handle parked (.awningMove .out 0)).1 = .ok [0, 0, 0] := by decide +kernel

/-- The kerb side: at the sample set that reads the awning at 200, entry 0 ends ROOM0 with ENVELOPE 0 (R125). -/
theorem test_envelope_ends_motion :
    let t := after (.sampleInterval midway []) kerbSide
    (t.room .room0).st = .idle ∧ (t.sa.records.get (.room .room0)).map (·.reason) = some (.envelope 0) := by
  decide +kernel

/-- Two samples change a switch, not one: SAMPLE made, IN_STOP_CHANGE, SAMPLE open leaves it OPEN (R10). -/
theorem test_one_sample_changes_no_switch :
    let t0 := after (.sampleInterval parked []) (roomAt .out 100 100 .first)
    let t1 := after (.inStopChange .room0 .fore true) t0
    let t2 := after (.sampleInterval midway []) t1
    (t0.sense .room0).foreIn = { made := false, run := 1 } ∧ t1 = t0 ∧ (t2.sense .room0).foreIn = { made := false, run := 0 }
      ∧ (let u := after (.inStopChange .room0 .fore true) (after (.sampleInterval parked []) t0)
        (u.sense .room0).foreIn = { made := true, run := 0 } ∧ (u.sense .room0).fore = .zero) := by decide +kernel

/-- A drive that stops at its in-stop is marked in the room record: bit 5 of its flags (R79). -/
theorem test_in_stop_marks_the_drive :
    let s := withSense (roomAt .inn 6 7 .second) fun q => { q with foreIn := { made := false, run := 2 } }
    let t := after (.inStopChange .room0 .fore true) s
    (t.room .room0).foreStopped = true ∧ (t.room .room0).aftStopped = false
      ∧ ((t.roomRecord .room0).getD 6 0).getLsbD 5 = true := by decide +kernel

/-- A gust under the lockout keeps it on and leaves its quiet count (R91). -/
theorem test_gust_keeps_the_lockout :
    let s := withWind (withFe bus fun f => { f with pulses := 5 }) fun w => { w with lockout := true, lockTime := 600, quiet := 2000 }
    let t := after .windWindow s
    t.wind.lockout = true ∧ t.wind.quiet = 2000 := by decide +kernel

/-- A room that settles straight from its grant counts among the rooms out (R154). -/
theorem test_settling_room_is_out :
    let s := withSense bus fun q => { q with engaged := { made := false, run := 0 } }
    let t := after (.move 0 .room0 .inn 0x7777) s
    (t.room .room0).st = .work .settling ∧ t.sa.stance.roomsOut = 1
      ∧ (after (.sampleInterval parked []) (withSense t fun q => { q with engaged := { made := true, run := 0 } })).sa.stance.roomsOut
        = 0 := by decide +kernel

/-- An awning taken out to POSITION(100) and cranked past it while frozen is driven back to it, and arrives within 8 counts
of it (R85). -/
theorem test_awning_drives_towards_its_target :
    let t := after (.resume 0 0x20) (frozenAwning 109)
    let x : SampleSet := { parked with stowed := false }
    (t.chan .awning).mode = .driven .second 100
      ∧ (after (.sampleInterval x [.awning]) t).aw.st = .work .moving
      ∧ (after (.sampleInterval x [.awning]) (after (.encoderStep .awning false) t)).aw.endPos = .position 100 := by
  decide +kernel

/-- A retraction of the awning that was cranked past its target is driven outward with the brake set, and not with it
released: it ends with INTERLOCK, and so does one that the release finds on its way out (R119). -/
theorem test_brake_released_drives_nothing_outward :
    let s := withAwning (frozenAwning 91) fun a => { a with extend := false }
    let t := after (.resume 0 0x20) (braked s)
    let u := after (.resume 0 0x20) s
    let v := after .parkBrakeReleased (allDiffer { u with link := Link.initial })
    (u.chan .awning).mode = .driven .first 100 ∧ (t.chan .awning).mode = .off
      ∧ t.sa.records.awning.map (·.reason) = some .interlock ∧ v.sa.records.awning.map (·.reason) = some .interlock
      ∧ (v.chan .awning).mode = .driven .second 100 := by
  decide +kernel

/-- A switch that opens acts in the set of its second sample: a drive 25 counts in behind it has overrun, and an entry on
AWNING_OUT ends a motion, before the rows of the changes are sent (R10, R66, R125). -/
theorem test_switch_change_acts_in_its_set :
    let s := withSense (roomAt .inn (-25) (-25) .second) fun q => { q with foreIn := { made := true, run := 1 } }
    let e : EnvContents :=
      { enabled := true, subject := .room .room0, direction := .both, source := .awningOut, low := 0, high := 0, outside := false }
    let u := withFe (withGuard (roomAt .out 800 800 .first) fun g => { g with envelope := g.envelope.set 3 { contents := e, locked := false } })
      fun f => { f with stowed := { made := true, run := 1 } }
    let x : SampleSet := { midway with stowed := false }
    ((after (.sampleInterval midway [.room .room0]) s).sa.records.get (.room .room0)).map (·.reason) = some .sensorFault
      ∧ ((after (.sampleInterval x []) u).sa.records.get (.room .room0)).map (·.reason) = some (.envelope 3)
      ∧ ((after (.sampleInterval midway []) u).sa.records.get (.room .room0)) = none := by
  decide +kernel

/-- Two units on one channel's current fire at one set, although the first one's action turns the channel off (R130, R131). -/
theorem test_watches_read_what_the_set_brought :
    let c := ChannelId.drive .room0 .fore
    let unit := fun (a : WatchAction) =>
      ({ contents := { enabled := true, source := .current c, low := 50, high := 400, outside := false, action := a }, hit := false } : WatchUnit)
    let s := roomAt .out 800 800 .first
    let s1 := withGuard (s.setChan c { s.chan c with reading := 20000 }) fun g => { g with
      watches := (g.watches.set 1 (unit (.stopGroup (.room .room0)))).set 2 (unit .freezeAll) }
    let t := after (.sampleInterval midway []) s1
    t.guard.watches.map (·.hit) = [false, true, true, false] ∧ t.frozen (.room .room0) = true
      ∧ (t.sa.records.get (.room .room0)).map (·.reason) = some (.watch 1) := by
  decide +kernel

/-- The highest reading of the pump and of every valve restarts with an operation, and a room's does not (R143). -/
theorem test_peaks_restart :
    let s : State := withJacks { lit with ch := .tab fun c => { lit.chan c with peak := 700 } } fun j => { j with st := .idle .down }
    let t := after (.levelStow 0) s
    t.jk.st = .work .stowing ∧ (t.chan .pump).peak = 0 ∧ (∀ j ∈ JackId.all, (t.chan (.valve j)).peak = 0)
      ∧ (t.chan (.drive .room0 .fore)).peak = 700 := by decide +kernel

/-- The test source feeds 250 mA into a pin and 1000 mA into a drive, in the first direction (R149). -/
theorem test_source_current :
    ((after (.circuitTest 0 (.pin .room2)) bus).chan (.pin .room2)).mode = .testing .first 250
      ∧ ((after (.circuitTest 0 (.drive .room2 .aft)) bus).chan (.drive .room2 .aft)).mode = .testing .first 1000 := by
  decide +kernel

/-- A suspended run shows its remembered phase: SUSPENDED in SETTLE reads 73H (9.4). -/
theorem test_suspended_shows_its_phase : (JackState.suspended (.levelling .settle)).byte = 0x73 := by decide

/-- Setting up a new coach (chapter 10): travel 1520 taken as it is, end window 130 clamped to 100, a busy store (R175). -/
theorem test_write_setting :
    let t := after (.writeSetting 1 1 3 1520) bus
    t.link.tx = some (replyOf 0x51 1 [0, 0, 0x05, 0xF0]) ∧ t.store.job = some (.item 1 3 1520, 30)
      ∧ (t.store.active.roomCal.get .room1).travel = 1600
      ∧ ((after .storeWriteComplete t).store.active.roomCal.get .room1).travel = 1520
      ∧ (t.handle parked (.writeSetting 1 4 30)).1 = .storeBusy
      ∧ (bus.handle parked (.writeSetting 1 4 130)).1 = .ok [1, 0, 100] := by decide +kernel

/-- A brief brake release (chapter 1): the latch tells of it at the next READ_STATUS and is armed again (R16). -/
theorem test_brake_latch :
    let s1 := after .parkBrakeReleased (withInputs bus fun i => { i with parkSet := { i.parkSet with run := 5 } })
    let s2 := after .parkBrakeSet (withInputs s1 fun i => { i with parkSet := { i.parkSet with run := 5 } })
    s1.inputs.parkSet = { level := false, latch := false, run := 0 }
      ∧ s2.inputs.parkSet = { level := true, latch := false, run := 0 }
      ∧ (after (.readStatus 0) s2).inputs.parkSet.latch = true := by decide +kernel

/-- The coach becomes travel-ready (chapter 8): jack RR at 5 mm ends the stow, and the lines change over (R46, R22, R155). -/
theorem test_travel_ready :
    let s0 := withFe (jacksIn lit (.work .stowing) fun j => { j with dumpReq := true }) fun f => { f with
      jacks := f.jacks.set .rr { f.jacks.rr with stroke := some 6 } }
    let s1 := withArb s0 fun a => { a with grants := [{ holder := .jacks, cls := .levelling, draw := 150 }] }
    let s := (withMode (withMode s1 (.valve .rr) (.driven .second 100)) .pump (.driven .first 100)).restance
    let x : SampleSet := { parked with jacks := parked.jacks.set .rr { stroke := some 5, pressure := some 0 } }
    let t := after (.sampleInterval x [.levelling]) s
    s.sa.stowedLine = false ∧ t.jk.st = .idle .retracted ∧ t.jk.dumpReq = false ∧ t.driven .pump = false
      ∧ t.sa.stance.travelReady = true ∧ t.sa.stowedLine = true ∧ t.sa.jacksLine = false ∧ t.sa.groups.jacks = true
      ∧ (t.sa.records.jacks).map (·.reason) = some .arrived := by decide +kernel

/-- A burst from a busy panel (chapter 9): a reply that ends sends the waiting reply, and the notice waits behind it (R168). -/
theorem test_reply_before_notice :
    let s := withLink State.reset fun l => { l with notice := true, slot := some (replyOf 0x11 2 [0, 0]) }
    let t := after (.frameTransmitComplete parkedRaw parked) s
    let u := after (.frameTransmitComplete parkedRaw parked) t
    t.link.tx = some (replyOf 0x11 2 [0, 0]) ∧ t.link.notice = true
      ∧ u.link.tx = some { kind := 0x7F, tag := 0, payload := [0x40, 0x01], after := .nothing } ∧ u.link.notice = false := by
  decide +kernel

/-- Payloads written out from 9.5 and 9.6 decode to their requests (R169). -/
theorem test_payloads_decode :
    decodeRequest 0x10 [2, 0, 2, 0x03, 0x84] = .ok (.roomMove .room1 .position 900)
      ∧ decodeRequest 0x10 [0, 5, 2, 0x00, 0x78] = .ok (.jog .rr 120)
      ∧ decodeRequest 0x10 [5, 0, 1, 0x12, 0x34] = .ok (.awningMove .out 0x1234)
      ∧ decodeRequest 0x14 [1] = .ok .levelStow
      ∧ decodeRequest 0x40 [19] = .ok (.circuitTest .awning)
      ∧ decodeRequest 0x51 [1, 4, 0x00, 0x82] = .ok (.writeSetting 1 4 130) := by decide

/-- Table lines written out from 9.6 decode to their entries (R169). -/
theorem test_table_lines_decode :
    decodeRequest 0x31 [2, 0x09, 3, 4, 0xFF, 0x00, 0xC8, 0x0F, 0xA0]
        = .ok (.writeEnvelope 2
            { enabled := true, subject := .room .room2, direction := .both, source := .awningCount, low := 200
              high := 4000, outside := false })
      ∧ decodeRequest 0x34 [1, 0x07, 6, 0xFF, 0xFE, 0xD4, 0x01, 0x2C, 0]
        = .ok (.writeWatch 1
            { enabled := true, source := .pitch, low := -300, high := 300, outside := true, action := .freezeAll }) := by
  decide

/-- A row of the table has no bits, so no word spells a command and `withFetchWord` changes nothing. -/
theorem test_no_word_spells_a_command (nbits w : Nat) : State.reset.withFetchWord nbits w = State.reset := rfl

end Sys2Proof.Tests
end

section
/-!
SUPPORT. What belongs to one group (`State.view`): its controller, its channels, its stop record, its place in the attention
set, at the arbiter and in the claim, with the freeze set. The operations of one group leave the view of every other group
as it was, and the walk of the waiting list the view of every group that does not wait.
-/

namespace Sys2Proof.Machine

open Sys2Proof

/-- The controller of a group. -/
inductive Controller where
  | jacks (j : Levelling)
  | room (x : Room)
  | awning (a : Awning)

/-- The engine without the drift timer, which the ends of the rooms start too (R43). -/
def Levelling.driftless (j : Levelling) : Levelling := { j with driftLeft := none, driftWait := false }

def State.controller (s : State) : Group → Controller
  | .jacks => .jacks s.jk.driftless
  | .room r => .room (s.room r)
  | .awning => .awning s.aw

/-- The group's part of the work-mode claim (R121). -/
def State.claims (s : State) : Group → Bool
  | .jacks => s.guard.jackWork
  | .room r => s.guard.roomWork.get r
  | .awning => false

/-- What belongs to one group, and the freeze set. -/
structure GroupView where
  controller : Controller
  chan : ChannelId → Option Channel
  record : Option StopRecord
  joined : Bool
  holds : Bool
  waits : Bool
  claims : Bool
  freeze : PerGroup Bool

def State.view (s : State) (g : Group) : GroupView :=
  { controller := s.controller g, chan := fun c => if c.owner = g then some (s.chan c) else none
    record := s.sa.records.get g, joined := s.sa.groups.get g, holds := s.holds g, waits := s.waits g
    claims := s.claims g, freeze := s.guard.freeze }

@[simp] theorem ChannelId.owner_pump : ChannelId.owner .pump = .jacks := by simp only [ChannelId.owner]
@[simp] theorem ChannelId.owner_valve (j : JackId) : ChannelId.owner (.valve j) = .jacks := by simp only [ChannelId.owner]
@[simp] theorem ChannelId.owner_drive (r : RoomId) (d : Drive) : ChannelId.owner (.drive r d) = .room r := by
  simp only [ChannelId.owner]
@[simp] theorem ChannelId.owner_pin (r : RoomId) : ChannelId.owner (.pin r) = .room r := by simp only [ChannelId.owner]
@[simp] theorem ChannelId.owner_awning : ChannelId.owner .awning = .awning := by simp only [ChannelId.owner]

/-! ## What equal views say -/

variable {s t : State} {g h : Group}

theorem State.holds_of_view (e : t.view g = s.view g) : t.holds g = s.holds g := congrArg GroupView.holds e
theorem State.waits_of_view (e : t.view g = s.view g) : t.waits g = s.waits g := congrArg GroupView.waits e
theorem State.claims_of_view (e : t.view g = s.view g) : t.claims g = s.claims g := congrArg GroupView.claims e
theorem State.freeze_of_view (e : t.view g = s.view g) : t.guard.freeze = s.guard.freeze := congrArg GroupView.freeze e
theorem State.record_of_view (e : t.view g = s.view g) : t.sa.records.get g = s.sa.records.get g :=
  congrArg GroupView.record e
theorem State.joined_of_view (e : t.view g = s.view g) : t.sa.groups.get g = s.sa.groups.get g :=
  congrArg GroupView.joined e
theorem State.controller_of_view (e : t.view g = s.view g) : t.controller g = s.controller g :=
  congrArg GroupView.controller e

theorem State.chan_of_view (e : t.view g = s.view g) (c : ChannelId) (o : c.owner = g) : t.chan c = s.chan c := by
  have := congrFun (congrArg GroupView.chan e) c
  simpa [State.view, o] using this

theorem State.driven_of_view (e : t.view g = s.view g) (c : ChannelId) (o : c.owner = g) : t.driven c = s.driven c := by
  rw [State.driven, State.driven, State.chan_of_view e c o]

theorem State.aw_of_view (e : t.view .awning = s.view .awning) : t.aw = s.aw := by
  simpa [State.controller] using State.controller_of_view e

theorem State.room_of_view {r : RoomId} (e : t.view (.room r) = s.view (.room r)) : t.room r = s.room r := by
  simpa [State.controller] using State.controller_of_view e

theorem State.jk_of_view (e : t.view .jacks = s.view .jacks) : t.jk.driftless = s.jk.driftless := by
  simpa [State.controller] using State.controller_of_view e

theorem State.jkState_of_view (e : t.view .jacks = s.view .jacks) : t.jk.st = s.jk.st :=
  (congrArg Levelling.st (State.jk_of_view e) :)

theorem State.jkResult_of_view (e : t.view .jacks = s.view .jacks) : t.jk.result = s.jk.result :=
  (congrArg Levelling.result (State.jk_of_view e) :)

theorem State.groupIdle_of_view (e : t.view g = s.view g) : t.groupIdle g = s.groupIdle g := by
  cases g with
  | jacks => simp only [State.groupIdle, State.jkState_of_view e]
  | room r => simp only [State.groupIdle, State.room_of_view e]
  | awning => simp only [State.groupIdle, State.aw_of_view e]

theorem State.working_of_view (e : t.view g = s.view g) : t.working g ↔ s.working g := by
  cases g with
  | jacks => simp only [State.working, State.jkState_of_view e]
  | room r => simp only [State.working, State.room_of_view e]
  | awning => simp only [State.working, State.aw_of_view e]

theorem State.groupOff_of_view (e : t.view g = s.view g) (off : s.groupOff g) : t.groupOff g := fun c o => by
  rw [State.driven_of_view e c o, off c o]

/-- What an end has left stays while the group's view does. -/
theorem State.endedWith_of_view {reason : Reason} (e : t.view g = s.view g) (p : t.straps = s.straps)
    (ended : s.endedWith g reason) : t.endedWith g reason := by
  simpa only [State.endedWith, State.atRest, State.groupIdle_of_view e, State.holds_of_view e, State.waits_of_view e,
    State.record_of_view e, State.joined_of_view e, p] using ended

/-- Two states that differ in nothing that belongs to a group have the same view of it. -/
theorem State.view_of_parts (jk : g = .jacks → t.jk = s.jk) (rooms : t.rooms = s.rooms) (aw : t.aw = s.aw)
    (ch : ∀ c, c.owner = g → t.chan c = s.chan c) (record : t.sa.records.get g = s.sa.records.get g)
    (joined : t.sa.groups.get g = s.sa.groups.get g) (arb : t.arb = s.arb) (guard : t.guard = s.guard) :
    t.view g = s.view g := by
  have c : t.controller g = s.controller g := by
    cases g <;> simp_all [State.controller, State.room]
  have k : t.claims g = s.claims g := by cases g <;> simp [State.claims, guard]
  have d : (fun c : ChannelId => if c.owner = g then some (t.chan c) else none)
      = fun c : ChannelId => if c.owner = g then some (s.chan c) else none := by
    funext c
    by_cases o : c.owner = g <;> simp [o, ch]
  simp only [State.view, c, k, d, record, joined, State.holds, State.waits, arb, guard]

/-! ## Updates -/

variable (s)

@[simp] theorem State.view_with_jk (v : Levelling) (n : g ≠ .jacks) : ({ s with jk := v } : State).view g = s.view g :=
  State.view_of_parts (fun e => absurd e n) rfl rfl (fun _ _ => rfl) rfl rfl rfl rfl

@[simp] theorem State.view_with_drift (a : Option Nat) (b : Bool) :
    ({ s with jk := { s.jk with driftLeft := a, driftWait := b } } : State).view g = s.view g := by
  cases g <;> rfl

@[simp] theorem State.view_modAw (f : Awning → Awning) (n : g ≠ .awning) : (s.modAw f).view g = s.view g := by
  cases g with
  | awning => exact absurd rfl n
  | _ => rfl

@[simp] theorem State.view_with_aw (v : Awning) (n : g ≠ .awning) : ({ s with aw := v } : State).view g = s.view g :=
  State.view_modAw s (fun _ => v) n

@[simp] theorem State.view_setRoom (r : RoomId) (x : Room) (n : g ≠ .room r) : (s.setRoom r x).view g = s.view g := by
  cases g with
  | room q =>
    have e : (s.setRoom r x).room q = s.room q := State.room_setRoom_other s r q x (fun e => n (e ▸ rfl))
    simp only [State.view, State.controller, e]
    rfl
  | _ => rfl

@[simp] theorem State.view_setChan (c : ChannelId) (x : Channel) (n : g ≠ c.owner) : (s.setChan c x).view g = s.view g :=
  State.view_of_parts (fun _ => rfl) rfl rfl
    (fun k o => State.chan_setChan_other s c k x (fun e => n (by rw [← o, e]))) rfl rfl rfl rfl

@[simp] theorem State.view_off (c : ChannelId) (n : g ≠ c.owner) : (s.off c).view g = s.view g := State.view_setChan s c _ n

@[simp] theorem State.view_drive (c : ChannelId) (d : ChanDir) (p : Int) (n : g ≠ c.owner) :
    (s.drive c d p).view g = s.view g := State.view_setChan s c _ n

@[simp] theorem State.view_clearPeaks (n : g ≠ h) : (s.clearPeaks h).view g = s.view g :=
  State.view_of_parts (fun _ => rfl) rfl rfl (fun c o => by simp [State.clearPeaks_chan, o, n]) rfl rfl rfl rfl

@[simp] theorem State.view_setSense (r : RoomId) (x : RoomSense) : (s.setSense r x).view g = s.view g := by
  cases g <;> rfl
@[simp] theorem State.view_zeroRoom (r : RoomId) : (s.zeroRoom r).view g = s.view g := State.view_setSense s r _
@[simp] theorem State.view_zeroAwning : s.zeroAwning.view g = s.view g := by cases g <;> rfl
@[simp] theorem State.view_setInputs (i : Inputs) : (s.setInputs i).view g = s.view g := by cases g <;> rfl
@[simp] theorem State.view_restance : s.restance.view g = s.view g := by cases g <;> rfl
@[simp] theorem State.view_with_link (l : Link) : ({ s with link := l } : State).view g = s.view g := by cases g <;> rfl

@[simp] theorem State.view_joinGroup (n : g ≠ h) : (s.joinGroup h).view g = s.view g := by
  refine State.view_of_parts (fun _ => by simp) (by simp) (by simp) (fun c _ => by simp [State.chan]) ?_ ?_ (by simp) (by simp)
  · unfold State.joinGroup; split <;> rfl
  · unfold State.joinGroup; split
    · rfl
    · exact PerGroup.get_set_other _ _ _ _ n

@[simp] theorem State.view_recordEnd (e : StopRecord) (n : g ≠ h) : (s.recordEnd h e).view g = s.view g := by
  unfold State.recordEnd
  dsimp only
  rw [State.view_joinGroup _ n, State.view_restance]
  exact State.view_of_parts (fun _ => rfl) rfl rfl (fun _ _ => rfl) (PerGroup.get_set_other _ _ _ _ n) rfl rfl rfl

@[simp] theorem State.view_giveUp (n : g ≠ h) : (s.giveUp h).view g = s.view g := by
  cases h with
  | jacks =>
    cases g with
    | jacks => exact absurd rfl n
    | _ => rfl
  | room r =>
    cases g with
    | room q =>
      have e : (s.guard.roomWork.set r false).get q = s.guard.roomWork.get q :=
        PerRoom.get_set_other _ _ _ _ (fun e => n (e ▸ rfl))
      simp only [State.view, State.claims, State.giveUp, e]
      rfl
    | _ => rfl
  | awning => rfl

theorem any_holder_filter {α : Type} (l : List α) (holder : α → Group) (n : g ≠ h) :
    ((l.filter fun e => decide (holder e ≠ h)).any fun e => decide (holder e = g)) = l.any fun e => decide (holder e = g) := by
  rw [List.any_filter]
  congr 1
  funext e
  by_cases k : holder e = g <;> simp [k, n]

/-- Other entries stay in the collections when one holder's leave them. -/
theorem State.dropSupply_others (n : g ≠ h) :
    (s.dropSupply h).holds g = s.holds g ∧ (s.dropSupply h).waits g = s.waits g := by
  unfold State.dropSupply Arbiter.sagIfEmpty
  split
  · dsimp only [State.holds, State.waits]
    constructor <;> split <;> exact any_holder_filter _ _ n
  · exact ⟨rfl, rfl⟩

@[simp] theorem State.view_dropSupply (n : g ≠ h) : (s.dropSupply h).view g = s.view g := by
  obtain ⟨holds, waits⟩ := State.dropSupply_others s n
  have c : (s.dropSupply h).controller g = s.controller g := by cases g <;> simp [State.controller, State.room]
  have k : (s.dropSupply h).claims g = s.claims g := by cases g <;> simp [State.claims]
  simp only [State.view, c, k, holds, waits, State.chan, State.dropSupply_ch, State.dropSupply_sa, State.dropSupply_guard]

theorem State.view_foldl {α : Type} (f : State → α → State) (k : ∀ t a, (f t a).view g = t.view g) (l : List α)
    (s : State) : (l.foldl f s).view g = s.view g := by
  induction l generalizing s with
  | nil => rfl
  | cons a l ih => simp [ih, k]

end Sys2Proof.Machine
end

section
/-!
SUPPORT. The operations of a group's controller leave the view of every other group as it was.
-/

namespace Sys2Proof.Machine

open Sys2Proof

variable {g : Group} (s : State)

/-! ## The levelling engine -/

section
variable (n : g ≠ .jacks)
include n

@[simp] theorem State.view_pumpFollow : s.pumpFollow.view g = s.view g := by
  unfold State.pumpFollow
  repeat' split
  all_goals simp [n]

@[simp] theorem State.view_openValve (j : JackId) (d : ChanDir) : (s.openValve j d).view g = s.view g := by
  simp [State.openValve, n]

@[simp] theorem State.view_closeValve (j : JackId) : (s.closeValve j).view g = s.view g := by simp [State.closeValve, n]

@[simp] theorem State.view_closeValves : s.closeValves.view g = s.view g := by
  rw [State.closeValves, State.view_pumpFollow _ n, State.view_foldl _ fun t j => State.view_off t _ n]

@[simp] theorem State.view_endJacks (reason : Reason) : (s.endJacks reason).view g = s.view g := by
  unfold State.endJacks
  split
  · rfl
  · dsimp only
    rw [State.view_recordEnd _ _ n, State.view_with_jk _ _ n, State.view_giveUp _ n, State.view_dropSupply _ n,
      State.view_closeValves _ n]

@[simp] theorem State.view_startStep (j : JackId) (k : Nat) : (s.startStep j k).view g = s.view g := by
  simp [State.startStep, n]

@[simp] theorem State.view_setLight (j : JackId) (b : Bool) : (s.setLight j b).view g = s.view g := by
  simp [State.setLight, n]

@[simp] theorem State.view_nextLight (l : List JackId) : (s.nextLight l).view g = s.view g := by
  induction l generalizing s with
  | nil => simp [State.nextLight, n]
  | cons j l ih =>
    unfold State.nextLight
    repeat' split
    all_goals simp [ih, n]

@[simp] theorem State.view_openTowards (j : JackId) (p : Int) : (s.openTowards j p).view g = s.view g := by
  unfold State.openTowards
  repeat' split
  all_goals simp [n]

@[simp] theorem State.view_openStation (t : Station) : (s.openStation t).view g = s.view g := by
  rw [State.openStation, State.view_foldl _ fun u j => State.view_openTowards u n j _, State.view_with_jk _ _ n]

@[simp] theorem State.view_markDone (t : Station) : (s.markDone t).view g = s.view g := by
  cases t <;> simp [State.markDone, n]

@[simp] theorem State.view_enterSettle : s.enterSettle.view g = s.view g := by simp [State.enterSettle, n]

@[simp] theorem State.view_chooseStation (k : Nat) : (s.chooseStation k).view g = s.view g := by
  induction k generalizing s with
  | zero => simp [State.chooseStation, n]
  | succ k ih =>
    unfold State.chooseStation
    dsimp only
    repeat' split
    all_goals simp [ih, n]

@[simp] theorem State.view_openStow : s.openStow.view g = s.view g :=
  State.view_foldl _ (fun t j => by split <;> simp [n]) _ _

@[simp] theorem State.view_jogDrive : s.jogDrive.view g = s.view g := by
  unfold State.jogDrive
  repeat' split
  all_goals simp [n]

@[simp] theorem State.view_haltJacks : s.haltJacks.view g = s.view g := by
  rw [State.haltJacks, State.view_with_jk _ _ n, State.view_closeValves _ n]

@[simp] theorem State.view_suspendJacks : s.suspendJacks.view g = s.view g := by simp [State.suspendJacks, n]

@[simp] theorem State.view_lapseJog : s.lapseJog.view g = s.view g := by simp [State.lapseJog, n]

theorem State.view_openUntouched :
    (s.presentJacks.foldl (fun t j => if (t.jk.touch.get j).isSome then t else t.openValve j .first) s).view g
      = s.view g :=
  State.view_foldl _ (fun t j => by split <;> simp [n]) _ _

@[simp] theorem State.view_returnJacks : s.returnJacks.view g = s.view g := by
  unfold State.returnJacks
  dsimp only
  split
  · split
    · simp [n]
    · split <;> simp [State.view_openUntouched, n]
    · split
      · split <;> simp [n]
      · simp [n]
    · simp [n]
    · split
      · split <;> simp [n]
      · simp [n]
    · split <;> simp [n]
    · split <;> simp [n]
  · rfl

@[simp] theorem State.view_returnJacksIfFree : s.returnJacksIfFree.view g = s.view g := by
  unfold State.returnJacksIfFree
  split <;> simp [n]

@[simp] theorem State.view_grantJacks : s.grantJacks.view g = s.view g := by
  unfold State.grantJacks
  dsimp only
  split <;> simp [n]

@[simp] theorem State.view_resumeJacks : s.resumeJacks.view g = s.view g := by simp [State.resumeJacks, n]

@[simp] theorem State.view_unfreezeJacks : s.unfreezeJacks.view g = s.view g := by
  unfold State.unfreezeJacks
  dsimp only
  split <;> simp [n]

end

/-! ## Rooms -/

@[simp] theorem State.view_roomEnded : s.roomEnded.view g = s.view g := by
  unfold State.roomEnded
  split <;> simp

section
variable {r : RoomId} (n : g ≠ .room r)
include n

@[simp] theorem State.view_roomOff : (s.roomOff r).view g = s.view g := by simp [State.roomOff, n]

@[simp] theorem State.view_finishRoom (reason : Reason) (k : Bool) (p : EndPosition) :
    (s.finishRoom r reason k p).view g = s.view g := by
  unfold State.finishRoom
  split <;> simp [n]

@[simp] theorem State.view_endRoom (reason : Reason) : (s.endRoom r reason).view g = s.view g := by
  simp [State.endRoom, n]

@[simp] theorem State.view_endRoomUnsure (reason : Reason) : (s.endRoomUnsure r reason).view g = s.view g := by
  simp [State.endRoomUnsure, n]

@[simp] theorem State.view_roomArrivesIn (reason : Reason) : (s.roomArrivesIn r reason).view g = s.view g := by
  unfold State.roomArrivesIn
  split <;> simp [n]

@[simp] theorem State.view_enterPreparing : (s.enterPreparing r).view g = s.view g := by simp [State.enterPreparing, n]

@[simp] theorem State.view_enterSettling : (s.enterSettling r).view g = s.view g := by simp [State.enterSettling, n]

@[simp] theorem State.view_roomArrival : (s.roomArrival r).view g = s.view g := by
  unfold State.roomArrival
  dsimp only
  repeat' split
  all_goals simp [n]

@[simp] theorem State.view_startDrive (d : Drive) : (s.startDrive r d).view g = s.view g := by
  unfold State.startDrive
  split <;> simp [n]

@[simp] theorem State.view_enterMoving : (s.enterMoving r).view g = s.view g := by
  unfold State.enterMoving
  dsimp only
  repeat' split
  all_goals simp [n]

@[simp] theorem State.view_proceedRoom : (s.proceedRoom r).view g = s.view g := by
  unfold State.proceedRoom
  dsimp only
  repeat' split
  all_goals simp [n]

@[simp] theorem State.view_haltRoom : (s.haltRoom r).view g = s.view g := by simp [State.haltRoom, n]

@[simp] theorem State.view_suspendRoom : (s.suspendRoom r).view g = s.view g := by simp [State.suspendRoom, n]

@[simp] theorem State.view_lapseRoom : (s.lapseRoom r).view g = s.view g := by simp [State.lapseRoom, n]

@[simp] theorem State.view_returnRoom : (s.returnRoom r).view g = s.view g := by
  unfold State.returnRoom
  dsimp only
  split
  · split
    · split <;> simp [n]
    · split <;> simp [n]
    · simp [n]
    · split <;> simp [n]
  · rfl

@[simp] theorem State.view_returnRoomIfFree : (s.returnRoomIfFree r).view g = s.view g := by
  unfold State.returnRoomIfFree
  split <;> simp [n]

@[simp] theorem State.view_grantRoom : (s.grantRoom r).view g = s.view g := by
  unfold State.grantRoom
  split <;> simp [n]

@[simp] theorem State.view_resumeRoom : (s.resumeRoom r).view g = s.view g := by simp [State.resumeRoom, n]

@[simp] theorem State.view_unfreezeRoom : (s.unfreezeRoom r).view g = s.view g := by
  unfold State.unfreezeRoom
  dsimp only
  split <;> simp [n]

end

/-! ## The awning -/

section
variable (n : g ≠ .awning)
include n

@[simp] theorem State.view_setPending (p : Option StowCause) : (s.setPending p).view g = s.view g :=
  State.view_modAw s _ n

@[simp] theorem State.view_finishAwning (reason : Reason) (k : Bool) (p : EndPosition) :
    (s.finishAwning reason k p).view g = s.view g := by
  unfold State.finishAwning
  split
  · rfl
  · dsimp only
    rw [State.view_recordEnd _ _ n, State.view_with_aw _ _ n, State.view_dropSupply _ n, State.view_off _ _ (by simpa using n)]

@[simp] theorem State.view_endAwning (reason : Reason) : (s.endAwning reason).view g = s.view g := by
  simp [State.endAwning, n]

@[simp] theorem State.view_awningArrivesIn : s.awningArrivesIn.view g = s.view g := by simp [State.awningArrivesIn, n]

@[simp] theorem State.view_driveAwning : s.driveAwning.view g = s.view g := by
  unfold State.driveAwning
  split <;> simp [n]

@[simp] theorem State.view_enterAwningMoving : s.enterAwningMoving.view g = s.view g := by
  unfold State.enterAwningMoving
  dsimp only
  repeat' split
  all_goals simp [n]

@[simp] theorem State.view_enterStowing : s.enterStowing.view g = s.view g := by
  unfold State.enterStowing
  dsimp only
  split <;> simp [n]

@[simp] theorem State.view_haltAwning : s.haltAwning.view g = s.view g := by simp [State.haltAwning, n]

@[simp] theorem State.view_suspendAwning : s.suspendAwning.view g = s.view g := by simp [State.suspendAwning, n]

@[simp] theorem State.view_returnAwning : s.returnAwning.view g = s.view g := by
  unfold State.returnAwning
  dsimp only
  split
  · split
    · split <;> simp [n]
    · simp [n]
    · simp [n]
  · rfl

@[simp] theorem State.view_returnAwningIfFree : s.returnAwningIfFree.view g = s.view g := by
  unfold State.returnAwningIfFree
  split <;> simp [n]

@[simp] theorem State.view_grantAwning : s.grantAwning.view g = s.view g := by
  unfold State.grantAwning
  dsimp only
  split <;> simp [n]

@[simp] theorem State.view_resumeAwning : s.resumeAwning.view g = s.view g := by simp [State.resumeAwning, n]

@[simp] theorem State.view_unfreezeAwning : s.unfreezeAwning.view g = s.view g := by simp [State.unfreezeAwning, n]

end

/-! ## Ends by the guard -/

@[simp] theorem State.view_endGroup {h : Group} (reason : Reason) (n : g ≠ h) : (s.endGroup h reason).view g = s.view g := by
  cases h <;> simp [State.endGroup, n]

@[simp] theorem State.view_endMove {h : Group} (reason : Reason) (n : g ≠ h) : (s.endMove h reason).view g = s.view g := by
  cases h with
  | awning => simp only [State.endMove]; split <;> simp [n]
  | _ => simp [State.endMove, n]

/-! ## Notices of the arbiter (R108, R110) -/

theorem State.view_notifyGrant (e : Waiting) (n : g ≠ e.holder) : (s.notifyGrant e).view g = s.view g := by
  obtain ⟨holder, cls, draw, before⟩ := e
  cases holder <;> cases before <;> simp_all [State.notifyGrant]

theorem State.view_notifySuspend {h : Group} (n : g ≠ h) : (s.notifySuspend h).view g = s.view g := by
  cases h <;> simp [State.notifySuspend, n]

/-- A grant from the head of the list is the business of its holder. -/
theorem State.view_grantHead (e : Waiting) (rest : List Waiting) (w : s.arb.waiting = e :: rest) (n : g ≠ e.holder) :
    (s.grantHead e rest).view g = s.view g := by
  have holds : (s.grantHead e rest).holds g = s.holds g := by simp [State.holds, State.grantHead, n.symm]
  have waits : (s.grantHead e rest).waits g = s.waits g := by simp [State.waits, State.grantHead, w, n.symm]
  simp only [State.view, holds, waits]
  cases g <;> rfl

/-- The walk is the business of those who wait (R107). -/
theorem State.view_walkFuel (k : Nat) (w : s.waits g = false) : (s.walkFuel k).view g = s.view g := by
  induction k generalizing s with
  | zero => rfl
  | succ k ih =>
    unfold State.walkFuel
    split
    · rfl
    · rename_i e rest list
      split
      · have n : g ≠ e.holder := by
          rintro rfl
          simp [State.waits, list] at w
        have same : ((s.grantHead e rest).notifyGrant e).view g = s.view g := by
          rw [State.view_notifyGrant _ _ n, State.view_grantHead s e rest list n]
        rw [ih _ (by rw [State.waits_of_view same, w]), same]
      · rfl

theorem State.view_walk (w : s.waits g = false) : s.walk.view g = s.view g := State.view_walkFuel s _ w

theorem State.view_settled (t : State) (w : t.waits g = false) : (s.settled t).view g = t.view g := by
  rw [State.settled, State.view_restance, State.walkAfter]
  split
  · exact State.view_walk t w
  · rfl

/-- A suspension is the business of the victim (R110). -/
theorem State.view_suspendHolder (v : Grant) (n : g ≠ v.holder) : (s.suspendHolder v).view g = s.view g := by
  unfold State.suspendHolder
  dsimp only
  rw [State.view_notifySuspend _ n]
  have holds : (s.arb.grants.filter fun e => decide (e.holder ≠ v.holder)).any (fun e => decide (e.holder = g)) = s.holds g :=
    any_holder_filter _ _ n
  have waits : (placeWaiting { holder := v.holder, cls := v.cls, draw := v.draw, before := true } s.arb.waiting).any
      (fun e => decide (e.holder = g)) = s.waits g := by
    rw [Bool.eq_iff_iff]
    simp [State.waits, mem_placeWaiting, n.symm]
  simp only [State.view, State.holds, State.waits, Arbiter.sagIfEmpty, apply_ite Arbiter.grants, apply_ite Arbiter.waiting,
    ite_self, holds, waits]
  cases g <;> rfl

/-- Suspensions are the business of the holders of grants (R109). -/
theorem State.view_suspendUntil (need k : Nat) (free : s.holds g = false) :
    (s.suspendUntil need k).view g = s.view g := by
  induction k generalizing s with
  | zero => rfl
  | succ k ih =>
    unfold State.suspendUntil
    split
    · rfl
    · split
      · rfl
      · rename_i v found
        have n : g ≠ v.holder := by
          rintro rfl
          simpa [State.holds] using List.any_eq_false.mp free v (victimOf_mem _ _ found)
        have same := State.view_suspendHolder s v n
        rw [ih _ (by rw [State.holds_of_view same, free]), same]

end Sys2Proof.Machine
end

section
/-!
SUPPORT. The end of an operation of any group, its walk and the ends of several groups; what the freeze set keeps; the time
that a timer's command lets pass.
-/

namespace Sys2Proof.Machine

open Sys2Proof

variable {g h : Group} (s : State)

/-! ## What stands still -/

theorem State.straps_of_still {s t : State} (e : t.still = s.still) : t.straps = s.straps := congrArg Still.straps e

theorem State.tx_of_still {s t : State} (e : t.still = s.still) : t.link.tx = s.link.tx :=
  (congrArg (fun x : Still => x.link.tx) e :)

theorem State.stowed_of_still {s t : State} (e : t.still = s.still) : t.stowed = s.stowed :=
  (congrArg (fun x : Still => x.stowed.reads) e :)

theorem State.framed_of_still {s t : State} (e : t.still = s.still) : t.framed = s.framed := by
  have link := congrArg Still.link e
  simp only [State.still, Link.mk.injEq] at link
  simp only [State.framed, e, link]

@[simp] theorem State.framed_restance : s.restance.framed = s.framed := rfl

/-- The sending of a frame is no part of what the motion frames. -/
@[simp] theorem State.kick_framed : s.kick.framed = s.framed := by
  unfold State.kick
  repeat' split
  all_goals rfl

@[simp] theorem State.replying_framed (f : SentFrame) : (s.replying f).framed = s.framed := by
  unfold State.replying
  split <;> rfl

/-! ## The passage of time -/

@[simp] theorem State.pass_power (d : Nat) : (s.pass d).power = s.power := rfl
@[simp] theorem State.pass_straps (d : Nat) : (s.pass d).straps = s.straps := rfl
@[simp] theorem State.pass_fe (d : Nat) : (s.pass d).fe = s.fe := rfl
@[simp] theorem State.pass_inputs (d : Nat) : (s.pass d).inputs = s.inputs := rfl
@[simp] theorem State.pass_jk (d : Nat) : (s.pass d).jk = s.jkAfter d := rfl
@[simp] theorem State.pass_arb (d : Nat) : (s.pass d).arb = s.arb := rfl
@[simp] theorem State.pass_guard (d : Nat) : (s.pass d).guard = s.guard := rfl
@[simp] theorem State.pass_ch (d : Nat) : (s.pass d).ch = s.ch := rfl
@[simp] theorem State.pass_sa (d : Nat) : (s.pass d).sa = s.sa := rfl
@[simp] theorem State.pass_chan (d : Nat) (c : ChannelId) : (s.pass d).chan c = s.chan c := rfl

@[simp] theorem State.pass_room (d : Nat) (r : RoomId) : (s.pass d).room r = s.roomAfter d r := by
  simp [State.room, State.pass]

/-- Time moves timers and run times only: what works goes on working. -/
theorem State.pass_working (d : Nat) : (s.pass d).working g ↔ s.working g := by
  cases g with
  | room r => simp [State.working, State.roomAfter]
  | _ => exact Iff.rfl

/-! ## The freeze set (R132, R137) -/

theorem Group.exists_ne (h : Group) : ∃ g : Group, g ≠ h := by
  cases h with
  | jacks => exact ⟨.awning, by decide⟩
  | _ => exact ⟨.jacks, by simp⟩

/-- Whatever is the business of one group only leaves the freeze set. -/
theorem State.freeze_of_others {s t : State} (e : ∀ g, g ≠ h → t.view g = s.view g) : t.guard.freeze = s.guard.freeze := by
  obtain ⟨g, n⟩ := Group.exists_ne h
  exact State.freeze_of_view (e g n)

theorem State.freeze_walkFuel (k : Nat) : (s.walkFuel k).guard.freeze = s.guard.freeze := by
  induction k generalizing s with
  | zero => rfl
  | succ k ih =>
    unfold State.walkFuel
    split
    · rfl
    · rename_i e rest _
      split
      · rw [ih, State.freeze_of_others fun g n => State.view_notifyGrant (s.grantHead e rest) e n]
        rfl
      · rfl

@[simp] theorem State.freeze_walk : s.walk.guard.freeze = s.guard.freeze := State.freeze_walkFuel s _

@[simp] theorem State.freeze_settled (t : State) : (s.settled t).guard.freeze = t.guard.freeze := by
  rw [State.settled, State.restance_guard, State.walkAfter]
  split <;> simp

@[simp] theorem State.freeze_requestSupply (c : SupplyClass) (n : Nat) :
    (s.requestSupply g c n).guard.freeze = s.guard.freeze := by
  rw [State.requestSupply, State.freeze_walk]

@[simp] theorem State.freeze_suspendUntil (need k : Nat) : (s.suspendUntil need k).guard.freeze = s.guard.freeze := by
  induction k generalizing s with
  | zero => rfl
  | succ k ih =>
    unfold State.suspendUntil
    split
    · rfl
    · split
      · rfl
      · rename_i v _
        rw [ih, State.freeze_of_others fun g n => State.view_suspendHolder s v n]

@[simp] theorem State.freeze_beginStow (c : StowCause) : (s.beginStow c).guard.freeze = s.guard.freeze := by
  rw [State.beginStow, State.freeze_settled, State.freeze_of_others fun g n => State.view_enterStowing _ n]
  simp [State.requestStow]

@[simp] theorem State.freeze_takeUpStow : s.takeUpStow.guard.freeze = s.guard.freeze := by
  unfold State.takeUpStow
  repeat' split
  all_goals simp

@[simp] theorem State.freeze_airDumpIfReady : s.airDumpIfReady.guard.freeze = s.guard.freeze := by
  unfold State.airDumpIfReady State.enterTouchdown State.askPump
  dsimp only
  repeat' split
  all_goals simp

/-- The owner of a group that leaves the freeze set takes no other group out of it (R137). -/
@[simp] theorem State.freeze_unfreezeOp : (s.unfreezeOp g).guard.freeze = s.guard.freeze := by
  cases g with
  | jacks =>
    simp only [State.unfreezeOp]
    split
    · rw [State.freeze_airDumpIfReady, State.freeze_of_others fun g n => State.view_unfreezeJacks s n]
    · rfl
  | room r =>
    simp only [State.unfreezeOp]
    split
    · rw [State.freeze_of_others fun g n => State.view_unfreezeRoom s n]
    · rfl
  | awning =>
    simp only [State.unfreezeOp]
    rw [State.freeze_takeUpStow]
    split
    · rw [State.freeze_of_others fun g n => State.view_unfreezeAwning s n]
    · rfl

theorem State.freeze_endMove (reason : Reason) : (s.endMove g reason).guard.freeze = s.guard.freeze :=
  State.freeze_of_others fun _ n => State.view_endMove s reason n

/-! ## The collections of the arbiter after an end -/

theorem State.dropSupply_arb_congr {s t : State} (e : t.arb = s.arb) : (t.dropSupply g).arb = (s.dropSupply g).arb := by
  have holds : t.holds g = s.holds g := by rw [State.holds, State.holds, e]
  have waits : t.waits g = s.waits g := by rw [State.waits, State.waits, e]
  unfold State.dropSupply
  rw [holds, waits, e]
  split
  · rfl
  · exact e

theorem State.dropSupply_waiting_nil (w : s.arb.waiting = []) : (s.dropSupply g).arb.waiting = [] := by
  unfold State.dropSupply Arbiter.sagIfEmpty
  split
  · dsimp only
    split <;> simp [w]
  · exact w

/-- An event that leaves the collections as they were owes no walk (R112, R113). -/
theorem State.settled_same (t : State) (e : t.arb = s.arb) : s.settled t = t.restance :=
  State.settled_kept s t (by simp [State.entryCount, e])

/-! ## The end of a JACKS operation (R38, R142) -/

theorem State.closeValves_driven (c : ChannelId) (o : c.owner = .jacks) : s.closeValves.driven c = false := by
  have off : ∀ k : ChannelId, k.owner = .jacks → k ≠ .pump →
      (JackId.all.foldl (fun t j => t.off (.valve j)) s).driven k = false := by
    intro k ok np
    cases k with
    | pump => exact absurd rfl np
    | valve j => cases j <;> simp [JackId.all, State.driven, State.off_chan_same, State.off_chan_other]
    | _ => simp at ok
  have none : (JackId.all.foldl (fun t j => t.off (.valve j)) s).anyValve = false := by
    simp only [State.anyValve, List.any_eq_false]
    intro j _
    simp [off (.valve j)]
  rw [State.closeValves, State.pumpFollow, none]
  by_cases p : c = .pump
  · subst p
    simp [State.driven, State.off_chan_same]
  · simp only [Bool.false_eq_true, if_false, State.driven, State.off_chan_other _ _ _ p]
    exact off c o p

/-- The stop record of a JACKS operation that ends (R161). -/
def State.jackRecord (s : State) (w : JackWork) (reason : Reason) : StopRecord :=
  { op := w.operation, reason := reason, positions := s.strokeRecord, runMs := s.jackRunMs w
    peak := (s.chan .pump).peak / 100 }

/-- The levelling result after the end of a JACKS operation: a run writes its own (R41). -/
def State.resultAfter (s : State) (w : JackWork) (reason : Reason) : Option LevelResult :=
  match w with
  | .levelling _ => some (s.levelResult (levelOutcome reason) (abortReason reason))
  | _ => s.jk.result

/-- The end of a JACKS operation, said once. -/
theorem State.endJacks_spec (w : JackWork) (reason : Reason) (work : s.jk.st.work? = some w) :
    ∃ t, s.endJacks reason = t ∧ t.jk = s.jk.ended (s.idleAfter w reason) (s.resultAfter w reason)
      ∧ t.holds .jacks = false ∧ t.waits .jacks = false ∧ t.arb = (s.dropSupply .jacks).arb
      ∧ (∀ c, c.owner = .jacks → t.driven c = false) ∧ t.guard = { s.guard with jackWork := false }
      ∧ t.sa.records = s.sa.records.set .jacks (some (s.jackRecord w reason)) ∧ t.sa.groups.jacks = true := by
  let v := (s.closeValves.dropSupply .jacks).giveUp .jacks
  have eq : s.endJacks reason
      = ({ v with jk := v.jk.ended (s.idleAfter w reason) (s.resultAfter w reason) } : State).recordEnd .jacks
          (s.jackRecord w reason) := by
    unfold State.endJacks
    rw [work]
    rfl
  have arb : v.arb = (s.dropSupply .jacks).arb := State.dropSupply_arb_congr (State.closeValves_arb s)
  have gone := State.dropSupply_gone s .jacks
  obtain ⟨sa, b, out, records, joined⟩ := State.recordEnd_spec
    ({ v with jk := v.jk.ended (s.idleAfter w reason) (s.resultAfter w reason) } : State) .jacks (s.jackRecord w reason)
  refine ⟨_, eq.trans out, ?_, ?_, ?_, arb, fun c o => ?_, ?_, ?_, joined rfl⟩
  · simp [v]
  · rw [State.holds, ← gone.1]; exact congrArg (fun a : Arbiter => a.grants.any _) arb
  · rw [State.waits, ← gone.2]; exact congrArg (fun a : Arbiter => a.waiting.any _) arb
  · simpa [State.driven, State.chan, v] using State.closeValves_driven s c o
  · simp [State.giveUp, v]
  · simpa [v] using records

/-! ## The end of an operation of any group -/

/-- The group's operation has ended with the reason given, its channels are off, and it has given up its claim (R38, R74,
R87, R122, R142). -/
def State.overWith (s : State) (g : Group) (reason : Reason) : Prop :=
  s.endedWith g reason ∧ s.groupOff g ∧ s.claims g = false

theorem State.overWith_of_view {s t : State} {reason : Reason} (e : t.view g = s.view g) (p : t.straps = s.straps)
    (closed : s.overWith g reason) : t.overWith g reason := by
  obtain ⟨ended, off, free⟩ := closed
  exact ⟨State.endedWith_of_view e p ended, State.groupOff_of_view e off, by rw [State.claims_of_view e, free]⟩

theorem State.overWith.waits {s : State} {reason : Reason} (closed : s.overWith g reason) : s.waits g = false := by
  obtain ⟨⟨⟨_, _, waits⟩, _⟩, _⟩ := closed
  exact waits

theorem State.overWith.holds {s : State} {reason : Reason} (closed : s.overWith g reason) : s.holds g = false := by
  obtain ⟨⟨⟨_, holds, _⟩, _⟩, _⟩ := closed
  exact holds

theorem State.overWith.idle {s : State} {reason : Reason} (closed : s.overWith g reason) : s.groupIdle g = true := by
  obtain ⟨⟨⟨idle, _⟩, _⟩, _⟩ := closed
  exact idle

theorem State.endJacks_over (reason : Reason) (work : s.working .jacks) : (s.endJacks reason).overWith .jacks reason := by
  obtain ⟨w, work⟩ := Option.ne_none_iff_exists'.mp work
  obtain ⟨t, eq, jk, holds, waits, -, off, guard, records, joined⟩ := State.endJacks_spec s w reason work
  rw [eq]
  exact ⟨⟨⟨by simp [State.groupIdle, jk, Levelling.ended, JackState.isIdle], holds, waits⟩,
    ⟨_, by rw [records, PerGroup.get_set_same], rfl⟩, fun _ => joined⟩, off, by simp [State.claims, guard]⟩

theorem State.finishRoom_over (r : RoomId) (reason : Reason) (k : Bool) (p : EndPosition) (work : s.working (.room r)) :
    (s.finishRoom r reason k p).overWith (.room r) reason := by
  obtain ⟨t, eq, room, -, holds, waits, -, chan, -, -, guard, -, records, joined⟩ := State.finishRoom_spec s r reason k p work
  rw [eq]
  have straps : t.straps = s.straps := State.straps_of_still (by rw [← eq, State.still_finishRoom])
  refine ⟨⟨⟨by simp [State.groupIdle, room, Room.ended], holds, waits⟩, ⟨_, by rw [records, PerGroup.get_set_same], rfl⟩, ?_⟩,
    fun c o => ?_, by simp [State.claims, guard]⟩
  · rw [straps]; exact joined
  · simp [State.driven, chan, o]

theorem State.finishAwning_over (reason : Reason) (k : Bool) (p : EndPosition) (work : s.working .awning) :
    (s.finishAwning reason k p).overWith .awning reason := by
  obtain ⟨t, eq, aw, holds, waits, -, chan, -, -, -, -, -, records, joined⟩ := State.finishAwning_spec s reason k p work
  rw [eq]
  have straps : t.straps = s.straps := State.straps_of_still (by rw [← eq, State.still_finishAwning])
  refine ⟨⟨⟨by simp [State.groupIdle, aw, Awning.ended], holds, waits⟩, ⟨_, by rw [records, PerGroup.get_set_same], rfl⟩, ?_⟩,
    fun c o => ?_, rfl⟩
  · rw [straps]; exact joined
  · cases c with
    | awning => simp [State.driven, chan]
    | _ => simp at o

theorem State.endGroup_over (reason : Reason) (work : s.working g) : (s.endGroup g reason).overWith g reason := by
  cases g with
  | jacks => exact State.endJacks_over s reason work
  | room r => exact State.finishRoom_over s r reason _ _ work
  | awning => exact State.finishAwning_over s reason _ _ work

/-- Without an operation there is nothing to end. -/
theorem State.endGroup_idle (reason : Reason) (rest : ¬ s.working g) : s.endGroup g reason = s := by
  cases g with
  | jacks => simp_all [State.working, State.endGroup, State.endJacks]
  | room r => simp_all [State.working, State.endGroup, State.endRoom, State.finishRoom]
  | awning => simp_all [State.working, State.endGroup, State.endAwning, State.finishAwning]

/-- What an end takes from the arbiter. -/
theorem State.endGroup_arb (reason : Reason) (work : s.working g) : (s.endGroup g reason).arb = (s.dropSupply g).arb := by
  cases g with
  | jacks =>
    obtain ⟨w, work⟩ := Option.ne_none_iff_exists'.mp work
    obtain ⟨t, eq, -, -, -, arb, -⟩ := State.endJacks_spec s w reason work
    rw [← arb, ← eq]; rfl
  | room r =>
    obtain ⟨t, eq, -, -, -, -, arb, -⟩ := State.finishRoom_spec s r reason (s.room r).known (s.room r).endPos work
    rw [← arb, ← eq]; rfl
  | awning =>
    obtain ⟨t, eq, -, -, -, arb, -⟩ := State.finishAwning_spec s reason s.aw.known s.aw.endPos work
    rw [← arb, ← eq]; rfl

theorem State.endGroup_waiting_nil (reason : Reason) (w : s.arb.waiting = []) :
    (s.endGroup g reason).arb.waiting = [] := by
  by_cases work : s.working g
  · rw [State.endGroup_arb s reason work]
    exact State.dropSupply_waiting_nil s w
  · rw [State.endGroup_idle s reason work, w]

/-! ## The end of a MOVE: a stow is not ended (R119) -/

theorem Awning.moving_iff (a : Awning) : a.moving = true ↔ a.st.work? ≠ none ∧ a.stowing = false := by
  unfold Awning.moving Awning.stowing
  rcases a.st.work? with _ | _ | _ | _ <;> simp

theorem State.endMove_moving (reason : Reason) (m : g = .awning → s.aw.moving = true) :
    s.endMove g reason = s.endGroup g reason := by
  cases g with
  | awning => simp [State.endMove, m rfl, State.endGroup]
  | _ => rfl

theorem State.endMove_over (reason : Reason) (work : s.working g) (m : g = .awning → s.aw.moving = true) :
    (s.endMove g reason).overWith g reason := by
  rw [State.endMove_moving s reason m]
  exact State.endGroup_over s reason work

/-- An awning that does not move is let be. -/
theorem State.endMove_stays (reason : Reason) (m : s.aw.moving = false) : s.endMove .awning reason = s := by
  simp [State.endMove, m]

/-! ## The ends of several groups -/

/-- The groups of a list end their moves, one after the other; no walk is made yet. -/
def State.endEach (s : State) (reason : Reason) (gs : List Group) : State := gs.foldl (fun t g => t.endMove g reason) s

theorem State.endMoves_eq (gs : List Group) (reason : Reason) : s.endMoves gs reason = s.settled (s.endEach reason gs) := rfl

@[simp] theorem State.still_endEach (reason : Reason) (gs : List Group) : (s.endEach reason gs).still = s.still :=
  State.still_foldl _ (fun t g => State.still_endMove t g reason) _ _

theorem State.freeze_endEach (reason : Reason) (gs : List Group) :
    (s.endEach reason gs).guard.freeze = s.guard.freeze := by
  induction gs generalizing s with
  | nil => rfl
  | cons k gs ih => exact (ih _).trans (State.freeze_endMove s reason)

/-- A group outside the list, and an awning that does not move, keep what is theirs. -/
theorem State.view_endEach (reason : Reason) (gs : List Group)
    (out : g ∈ gs → g = .awning ∧ s.aw.moving = false) : (s.endEach reason gs).view g = s.view g := by
  induction gs generalizing s with
  | nil => rfl
  | cons k gs ih =>
    have head : (s.endMove k reason).view g = s.view g := by
      by_cases e : g = k
      · subst e
        obtain ⟨rfl, m⟩ := out List.mem_cons_self
        rw [State.endMove_stays s reason m]
      · exact State.view_endMove s reason e
    refine (ih (s.endMove k reason) fun mem => ?_).trans head
    obtain ⟨rfl, m⟩ := out (List.mem_cons_of_mem _ mem)
    exact ⟨rfl, by rw [State.aw_of_view head, m]⟩

/-- In its turn a group of the list ends its move as it would have done at first. -/
theorem State.endEach_turn (reason : Reason) (gs : List Group) (nodup : gs.Nodup) (mem : g ∈ gs) :
    ∃ u : State, u.view g = s.view g ∧ u.still = s.still ∧ (s.endEach reason gs).view g = (u.endMove g reason).view g := by
  induction gs generalizing s with
  | nil => cases mem
  | cons k gs ih =>
    obtain ⟨fresh, nodup⟩ := List.nodup_cons.mp nodup
    by_cases e : g = k
    · subst e
      exact ⟨s, rfl, rfl, State.view_endEach (s.endMove g reason) reason gs fun mem => absurd mem fresh⟩
    · obtain ⟨u, before, still, turn⟩ := ih (s.endMove k reason) nodup ((List.mem_cons.mp mem).resolve_left e)
      exact ⟨u, before.trans (State.view_endMove s reason e), still.trans (State.still_endMove s k reason), turn⟩

/-- Every group of the list that works ends, the awning if it moves. -/
theorem State.endEach_over (reason : Reason) (gs : List Group) (nodup : gs.Nodup) (mem : g ∈ gs) (work : s.working g)
    (m : g = .awning → s.aw.moving = true) : (s.endEach reason gs).overWith g reason := by
  obtain ⟨u, before, still, turn⟩ := State.endEach_turn s reason gs nodup mem
  refine State.overWith_of_view turn ?_ (State.endMove_over u reason ((State.working_of_view before).mpr work) ?_)
  · exact State.straps_of_still (by rw [State.still_endEach, State.still_endMove, still])
  · rintro rfl
    rw [State.aw_of_view before, m rfl]

/-- What has ended stays so through the walk that the ends owe (R112). -/
theorem State.settled_over {t : State} {reason : Reason} (closed : t.overWith g reason) : (s.settled t).overWith g reason :=
  State.overWith_of_view (State.view_settled s t closed.waits) (State.straps_of_still (State.still_settled s t)) closed

theorem State.endMoves_over (reason : Reason) (gs : List Group) (nodup : gs.Nodup) (mem : g ∈ gs) (work : s.working g)
    (m : g = .awning → s.aw.moving = true) : (s.endMoves gs reason).overWith g reason :=
  State.settled_over s (State.endEach_over s reason gs nodup mem work m)

/-- A group that does not wait and is not ended keeps what is its own (R107, R119). -/
theorem State.view_endMoves (reason : Reason) (gs : List Group) (out : g ∈ gs → g = .awning ∧ s.aw.moving = false)
    (w : s.waits g = false) : (s.endMoves gs reason).view g = s.view g := by
  have same := State.view_endEach s reason gs out
  rw [State.endMoves_eq, State.view_settled _ _ (by rw [State.waits_of_view same, w]), same]

theorem Group.all_nodup : Group.all.Nodup := by decide

theorem Group.mem_all (g : Group) : g ∈ Group.all := by
  rcases g with _ | r | _
  · decide
  · cases r <;> decide
  · decide

theorem State.presentGroups_nodup : s.presentGroups.Nodup := Group.all_nodup.filter _

theorem State.mem_presentGroups : g ∈ s.presentGroups ↔ s.straps.hasGroup g = true := by
  simp [State.presentGroups, Group.mem_all]

theorem State.namedGroups_nodup (mask : Byte) : (s.namedGroups mask).Nodup := (State.presentGroups_nodup s).filter _

theorem State.mem_namedGroups (mask : Byte) :
    g ∈ s.namedGroups mask ↔ s.straps.hasGroup g = true ∧ inMask mask g = true := by
  simp [State.namedGroups, State.mem_presentGroups]

end Sys2Proof.Machine
end

section
/-!
SUPPORT. The answer of a motion request whose checks pass, and the requests of chapter 2 that are taken: the touchdown that
asks for the pump, the valves of a stow, the valve of a jog.
-/

namespace Sys2Proof.Machine

open Sys2Proof

variable (s : State)

/-! ## Checks and replies -/

/-- A request whose checks all pass is taken. -/
theorem judged_taken (checks : List (Option Answer)) (taken : Answer × State) (pass : ∀ c ∈ checks, c = none) :
    judged s checks taken = taken := by
  have first : firstFailure checks = none := by simpa [firstFailure] using pass
  simp [judged, first]

/-- The reply to an empty slot is given, whatever the transmit path sends. -/
theorem State.hasReply_replying {t : State} (f : SentFrame) (tx : t.link.tx = s.link.tx) :
    s.hasReply (t.replying f) f := by
  unfold State.hasReply State.replying
  cases path : s.link.tx <;> simp [tx, path]

/-- A request row on a part that is ready, its owner's answer an OK that ends nothing: the reply is given, and the rest of
the state is the owner's, which stands still but for motion. -/
theorem State.ready.takes {s : State} (ready : s.ready) (tag : Byte) (q : Request) (fields : List Byte) (u : State)
    (w : q.wf = true) (last : afterReply q (.ok fields) = .nothing) (still : u.still = s.still) :
    ∃ l : Link, s.ifOn (s.asked tag q (.ok fields, u)) = .next { u with link := l }
      ∧ s.hasReply { u with link := l } (replyOf (byteOf q.kind) tag (0 :: fields))
      ∧ ({ u with link := l } : State).framed = s.framed := by
  obtain ⟨l, eq⟩ := State.replying_link u (replyFrame (byteOf q.kind) tag (.ok fields) (afterReply q (.ok fields)))
  have frame : replyFrame (byteOf q.kind) tag (.ok fields) (afterReply q (.ok fields))
      = replyOf (byteOf q.kind) tag (0 :: fields) := by rw [last]; rfl
  refine ⟨l, ?_, ?_, ?_⟩
  · rw [ready.answers tag q _ w, eq]
  · rw [← eq, frame]
    exact State.hasReply_replying s _ (State.tx_of_still still)
  · rw [← eq, State.replying_framed, State.framed_of_still still]

/-! ## The three JACKS requests (R23, R45, R47) -/

variable {s}

theorem State.jacksClear.checks {channels : List ChannelId} {extend retract : Bool}
    (clear : s.jacksClear channels extend retract) :
    s.jackBusy = none ∧ s.jackFaultCheck = none ∧ s.channelCheck channels = none ∧ s.permitCheck .jacks true = none
      ∧ s.jackWorkCheck = none ∧ s.envelopeCheck .jacks extend retract = none := by
  obtain ⟨idle, fault, claim, channels, permit, envelope⟩ := (State.jacksClear_iff s channels extend retract).mp clear
  simp [State.jackBusy, State.jackFaultCheck, State.jackWorkCheck, State.permitCheck, failsIf, *]

theorem State.onLevelAuto_taken (clear : s.jacksClear s.levelChannels true true)
    (steep : s.filterFull = true → s.tiltWithin s.store.active.level.steepness = true) :
    s.onLevelAuto = (.ok [], s.settled s.startLevel) := by
  obtain ⟨busy, fault, channel, permit, claim, envelope⟩ := clear.checks
  have flat : s.steepCheck = none := by
    unfold State.steepCheck failsIf
    cases full : s.filterFull <;> simp [steep, full]
  refine judged_taken s _ _ ?_
  simp [busy, fault, channel, permit, claim, envelope, flat]

theorem State.onLevelStow_taken (clear : s.jacksClear s.levelChannels false true) :
    s.onLevelStow
      = (.ok [], s.settled (if s.jk.st = .idle .retracted then s.stowAtOnce else (s.takeJacks .stowing).askPump)) := by
  obtain ⟨busy, fault, channel, permit, claim, envelope⟩ := clear.checks
  refine judged_taken s _ _ ?_
  simp [busy, fault, channel, permit, claim, envelope]

theorem State.onJog_taken {j : JackId} {v : Half} (present : s.straps.hasJack j = true)
    (clear : s.jacksClear [.pump, .valve j] (s.jogExtends j v) (!s.jogExtends j v)) :
    s.onJog j v = (.ok (clampFields v.toInt (s.jogTarget v)), s.settled (s.startJog j v)) := by
  obtain ⟨busy, fault, channel, permit, claim, envelope⟩ := clear.checks
  refine judged_taken s _ _ ?_
  simp [busy, fault, channel, permit, claim, envelope, failsIf, present]

/-! ## The pump is asked for and granted (R26) -/

variable (s)

/-- The arbiter with the pump's entry at the end of its grant table. -/
def Arbiter.withPump (a : Arbiter) (draw : Nat) : Arbiter :=
  { a with waiting := [], grants := a.grants ++ [{ holder := .jacks, cls := .levelling, draw := draw }] }

theorem State.waits_of_nil (g : Group) (w : s.arb.waiting = []) : s.waits g = false := by simp [State.waits, w]

/-- A request for the pump that fits is granted, and the engine acts on its grant in the same event. -/
theorem State.askPump_fits {u : State} (fits : s.fits s.jk.cap.draw)
    (acts : ({ s with arb := s.arb.withPump s.jk.cap.draw } : State).grantJacks = u) (w : u.arb.waiting = []) :
    s.askPump = u := by
  have granted : s.requestSupply .jacks .levelling s.jk.cap.draw = u :=
    (State.requestSupply_fits s _ _ _ fits).trans acts
  unfold State.askPump
  rw [granted]
  exact if_neg (by simp [State.waits_of_nil u .jacks w])

/-- TOUCHDOWN is entered with the pump granted: no valve is opened yet (R26). -/
theorem State.enterTouchdown_fits (fits : s.fits s.jk.cap.draw) :
    s.enterTouchdown = { s with
      arb := s.arb.withPump s.jk.cap.draw
      jk := { s.jk with st := .work (.levelling .touchdown), airLeft := none, waitLeft := none } } :=
  State.askPump_fits ({ s with jk := { s.jk with st := .work (.levelling .touchdown), airLeft := none } } : State) fits rfl rfl

/-! ## Valves (R141, R142) -/

theorem State.anyValve_iff : s.anyValve = true ↔ ∃ j, s.driven (.valve j) = true := by
  rw [State.anyValve, List.any_eq_true]
  exact ⟨fun ⟨j, _, d⟩ => ⟨j, d⟩, fun ⟨j, d⟩ => ⟨j, by cases j <;> decide, d⟩⟩

/-- The pump apart, it follows the valves without touching a channel. -/
theorem State.pumpFollow_chan (c : ChannelId) (n : c ≠ .pump) : s.pumpFollow.chan c = s.chan c := by
  unfold State.pumpFollow
  repeat' split
  · rfl
  · exact State.drive_chan_other s _ c _ _ n
  · exact State.off_chan_other s _ c n

theorem Channel.commanded_mode (x : Channel) (d : ChanDir) (p : Int) : (x.commanded d p).mode = .driven d p := by
  unfold Channel.commanded
  split <;> rfl

theorem Channel.commanded_peak (x : Channel) (d : ChanDir) (p : Int) : (x.commanded d p).peak = x.peak := by
  unfold Channel.commanded
  split <;> rfl

/-- A driven valve has the pump with it. -/
theorem State.pumpFollow_pump (any : s.anyValve = true) : s.pumpFollow.driven .pump = true := by
  unfold State.pumpFollow
  rw [if_pos any]
  split
  · assumption
  · simp [State.driven, State.drive_chan_same, Channel.isDriven, Channel.commanded_mode]

/-- No drive command touches a highest reading (R143). -/
theorem State.openValve_peak (j : JackId) (d : ChanDir) (c : ChannelId) :
    ((s.openValve j d).chan c).peak = (s.chan c).peak := by
  have drive : ∀ (t : State) (k : ChannelId) (p : Int) (e : ChanDir), ((t.drive k e p).chan c).peak = (t.chan c).peak := by
    intro t k p e
    by_cases same : c = k
    · subst same; rw [State.drive_chan_same, Channel.commanded_peak]
    · rw [State.drive_chan_other _ _ _ _ _ same]
  have off : ∀ (t : State) (k : ChannelId), ((t.off k).chan c).peak = (t.chan c).peak := by
    intro t k
    by_cases same : c = k
    · subst same; rw [State.off_chan_same]; rfl
    · rw [State.off_chan_other _ _ _ same]
  unfold State.openValve State.pumpFollow
  repeat' split
  all_goals simp only [drive, off]

/-- An opened valve is driven at 100 % with the pump, and the other valves stay as they were. -/
theorem State.openValve_spec (j : JackId) (d : ChanDir) :
    ((s.openValve j d).chan (.valve j)).mode = .driven d 100 ∧ (s.openValve j d).driven .pump = true
      ∧ ∀ c, c ≠ .valve j → c ≠ .pump → (s.openValve j d).chan c = s.chan c := by
  have valve : ((s.drive (.valve j) d 100).chan (.valve j)).mode = .driven d 100 := by
    rw [State.drive_chan_same, Channel.commanded_mode]
  refine ⟨?_, ?_, fun c nj np => ?_⟩
  · rw [State.openValve, State.pumpFollow_chan _ _ (by simp), valve]
  · refine State.pumpFollow_pump _ ((State.anyValve_iff _).mpr ⟨j, ?_⟩)
    simp [State.driven, Channel.isDriven, valve]
  · rw [State.openValve, State.pumpFollow_chan _ _ np, State.drive_chan_other _ _ _ _ _ nj]

end Sys2Proof.Machine
end

section
/-!
PROOFS. The requests that are taken at once: arrivals at once (O22), LEVEL AUTO (O23), LEVEL STOW (O24), a jog (O25).
-/

namespace Sys2Proof.Machine

open Sys2Proof

variable (s : State)

/-! ## The retract valves of a stow (R46) -/

/-- An opened valve changes channels only. -/
theorem State.openValve_ch (j : JackId) (d : ChanDir) : ∃ ch, s.openValve j d = { s with ch := ch } := by
  unfold State.openValve State.pumpFollow
  repeat' split
  all_goals exact ⟨_, rfl⟩

/-- The retract valves of the jacks of a list that stand above 5 mm. -/
def State.openAbove (s : State) (l : List JackId) : State :=
  l.foldl (fun t j => if t.retracted j then t else t.openValve j .second) s

theorem State.openAbove_spec (l : List JackId) :
    (∃ ch, s.openAbove l = { s with ch := ch })
      ∧ (∀ j ∈ l, s.retracted j = false → ((s.openAbove l).chan (.valve j)).mode = .driven .second 100)
      ∧ (∀ j, j ∉ l ∨ s.retracted j = true → (s.openAbove l).chan (.valve j) = s.chan (.valve j))
      ∧ (s.driven .pump = true ∨ (∃ j ∈ l, s.retracted j = false) → (s.openAbove l).driven .pump = true)
      ∧ (∀ c, ((s.openAbove l).chan c).peak = (s.chan c).peak) := by
  induction l generalizing s with
  | nil => exact ⟨⟨s.ch, rfl⟩, by simp, fun _ _ => rfl, by simp [State.openAbove], fun _ => rfl⟩
  | cons i l ih =>
    by_cases r : s.retracted i = true
    · have step : s.openAbove (i :: l) = s.openAbove l := by simp [State.openAbove, r]
      obtain ⟨frame, opened, others, pump, peak⟩ := ih s
      rw [step]
      refine ⟨frame, fun j mem above => ?_, fun j out => others j ?_, fun on => pump ?_, peak⟩
      · rcases List.mem_cons.mp mem with rfl | mem
        · simp [r] at above
        · exact opened j mem above
      · rcases out with out | down
        · exact .inl fun mem => out (List.mem_cons_of_mem _ mem)
        · exact .inr down
      · rcases on with on | ⟨j, mem, above⟩
        · exact .inl on
        · rcases List.mem_cons.mp mem with rfl | mem
          · simp [r] at above
          · exact .inr ⟨j, mem, above⟩
    · have step : s.openAbove (i :: l) = (s.openValve i .second).openAbove l := by simp [State.openAbove, r]
      obtain ⟨valve, running, rest⟩ := State.openValve_spec s i .second
      obtain ⟨ch, eq⟩ := State.openValve_ch s i .second
      have same : ∀ j, (s.openValve i .second).retracted j = s.retracted j := fun j => by rw [eq]; rfl
      obtain ⟨⟨ch', frame⟩, opened, others, pump, peak⟩ := ih (s.openValve i .second)
      rw [step]
      refine ⟨⟨ch', by rw [frame, eq]⟩, fun j mem above => ?_, fun j out => ?_, fun _ => pump (.inl running), fun c => ?_⟩
      · by_cases again : j ∈ l
        · exact opened j again (by rw [same, above])
        · obtain rfl := (List.mem_cons.mp mem).resolve_right again
          rw [others j (.inl again), valve]
      · have ne : j ≠ i := by
          rintro rfl
          rcases out with out | down
          · exact out List.mem_cons_self
          · exact r down
        rw [others j (out.imp (fun o mem => o (List.mem_cons_of_mem _ mem)) fun down => by rw [same, down])]
        exact rest _ (by simpa using ne) (by simp)
      · rw [peak, State.openValve_peak]

/-! ## Arrivals at once (R56, R77, R84, R89) -/

theorem PerGroup.set_get_self {α : Type} (p : PerGroup α) (g : Group) : p.set g (p.get g) = p := by
  rcases g with _ | r | _
  · rfl
  · cases r <;> rfl
  · rfl

/-- A present group's end handed on adds its record and puts the group into the attention set (R162). -/
theorem State.recordEnd_present (g : Group) (e : StopRecord) (present : s.straps.hasGroup g = true) :
    ∃ (sa : StanceAttention) (b : Bool), s.recordEnd g e = { s with sa := sa, link := { s.link with notice := b } }
      ∧ sa.records = s.sa.records.set g (some e) ∧ sa.groups = s.sa.groups.set g true := by
  let y := ({ s with sa := { s.sa with records := s.sa.records.set g (some e) } } : State).restance
  show ∃ sa b, y.joinGroup g = _ ∧ _ ∧ _
  unfold State.joinGroup
  split
  · rename_i member
    have already : s.sa.groups.get g = true := by
      rw [show y.straps.hasGroup g = true from present, Bool.not_true, Bool.or_false] at member
      exact member
    exact ⟨_, s.link.notice, rfl, rfl, by rw [← already, PerGroup.set_get_self]⟩
  · exact ⟨_, true, rfl, rfl, rfl⟩

theorem State.roomClear.checks {s : State} {r : RoomId} {extend : Bool} (clear : s.roomClear r extend) :
    s.straps.hasRoom r = true ∧ s.roomBusy r = none ∧ ∀ c ∈ s.roomChecks r extend, c = none := by
  obtain ⟨present, idle, claim, channels, permit, envelope⟩ := (State.roomClear_iff s r extend).mp clear
  refine ⟨present, by simp [State.roomBusy, failsIf, idle], ?_⟩
  simp [State.roomChecks, State.permitCheck, State.roomWorkCheck, failsIf, *]

theorem State.awningClear.checks {s : State} {extend : Bool} (clear : s.awningClear extend) :
    s.straps.awning = true ∧ s.awningBusy = none ∧ ∀ c ∈ s.awningChecks extend, c = none := by
  obtain ⟨present, idle, channels, permit, envelope⟩ := (State.awningClear_iff s extend).mp clear
  refine ⟨present, by simp [State.awningBusy, failsIf, idle], ?_⟩
  simp [State.awningChecks, State.permitCheck, *]

/-- A HOME of a clear room is taken. -/
theorem State.onRoomHome_taken {s : State} {r : RoomId} (clear : s.roomClear r false) :
    s.onRoomHome r = (.ok [], s.settled (s.startRoom r true .inn)) := by
  obtain ⟨present, busy, checks⟩ := clear.checks
  refine judged_taken s _ _ fun c mem => ?_
  rcases List.mem_append.mp mem with mem | mem
  · simpa [busy, present, failsIf] using mem
  · exact checks c mem

/-- A MOVE IN of a clear, known room is taken. -/
theorem State.onRoomMove_taken {s : State} {r : RoomId} (v : Half) (clear : s.roomClear r false)
    (known : (s.room r).known = true) :
    s.onRoomMove r .inn v = (.ok [0, 0, 0], s.settled (s.startRoom r false .inn)) := by
  obtain ⟨present, busy, checks⟩ := clear.checks
  have taken : s.onRoomMove r .inn v
      = (.ok [0, 0, 0], s.settled (s.startRoom r (decide (EndCode.inn = .inn) && !(s.room r).known) .inn)) := by
    refine judged_taken s _ _ fun c mem => ?_
    rcases List.mem_append.mp mem with mem | mem
    · simpa [busy, present, failsIf] using mem
    · exact checks c mem
  simpa [known] using taken

theorem State.onAwningHome_taken {s : State} (clear : s.awningClear false) :
    s.onAwningHome = (.ok [], s.settled (s.startAwning .home .inn false)) := by
  obtain ⟨present, busy, checks⟩ := clear.checks
  refine judged_taken s _ _ fun c mem => ?_
  rcases List.mem_append.mp mem with mem | mem
  · simpa [busy, present, failsIf] using mem
  · exact checks c mem

theorem State.onAwningMove_taken {s : State} (v : Half) (clear : s.awningClear false) (known : s.aw.known = true) :
    s.onAwningMove .inn v = (.ok [0, 0, 0], s.settled (s.startAwning .move .inn false)) := by
  obtain ⟨present, busy, checks⟩ := clear.checks
  have taken : s.onAwningMove .inn v = (.ok [0, 0, 0],
      s.settled (s.startAwning (if decide (EndCode.inn = .inn) && !s.aw.known then .home else .move) .inn false)) := by
    refine judged_taken s _ _ fun c mem => ?_
    rcases List.mem_append.mp mem with mem | mem
    · simpa [busy, present, failsIf] using mem
    · exact checks c mem
  simpa [known] using taken

/-- What an arrival of a room at once leaves: its record, its end position, and the drift timer that the end starts. -/
theorem State.roomAtOnce_settles (r : RoomId) (home : Bool) (present : s.straps.hasRoom r = true) :
    let z := if home then s.zeroRoom r else s
    ∃ u, s.settled (s.roomAtOnce r home) = u ∧ u.still = s.still ∧ u.arb = s.arb ∧ u.ch = s.ch ∧ u.guard = s.guard
      ∧ u.aw = s.aw ∧ u.fe = z.fe ∧ u.room r = { s.room r with known := home || (s.room r).known, endPos := .inn }
      ∧ (∀ q, q ≠ r → u.room q = s.room q)
      ∧ u.sa.records = s.sa.records.set (.room r)
          (some { op := if home then .home else .move, reason := .arrived, positions := z.roomPositions r, runMs := 0
                  peak := 0 })
      ∧ u.sa.groups = s.sa.groups.set (.room r) true
      ∧ u.jk = (if s.jk.st = .idle .levelled then
          { s.jk with driftLeft := some s.jk.cap.level.settleMs.toNat, driftWait := false } else s.jk) := by
  intro z
  have frame : z.arb = s.arb ∧ z.ch = s.ch ∧ z.guard = s.guard ∧ z.aw = s.aw ∧ z.rooms = s.rooms ∧ z.sa = s.sa
      ∧ z.jk = s.jk ∧ z.straps = s.straps := by
    cases home <;> exact ⟨rfl, rfl, rfl, rfl, rfl, rfl, rfl, rfl⟩
  obtain ⟨arb, ch, guard, aw, rooms, sa, jk, straps⟩ := frame
  have room : ∀ q, z.room q = s.room q := fun q => by rw [State.room, rooms]; rfl
  let y := z.setRoom r { s.room r with known := home || (s.room r).known, endPos := .inn }
  obtain ⟨sa', b, eq, records, groups⟩ := State.recordEnd_present y (.room r)
    { op := if home then .home else .move, reason := .arrived, positions := z.roomPositions r, runMs := 0, peak := 0 }
    (by rw [State.setRoom_straps, straps]; exact present)
  obtain ⟨j, ended, drift⟩ := State.roomEnded_spec ({ y with sa := sa', link := { y.link with notice := b } } : State)
  have once : s.roomAtOnce r home = { y with sa := sa', link := { y.link with notice := b }, jk := j } := by
    rw [← ended, ← eq]
    simp only [State.roomAtOnce]
    rw [show (if home then s.zeroRoom r else s) = z from rfl, room r]
    rfl
  have still : (s.roomAtOnce r home).still = s.still := State.still_roomAtOnce s r home
  refine ⟨_, State.settled_same s _ (by rw [once]; exact arb), ?_⟩
  rw [once] at still ⊢
  refine ⟨still, arb, ch, guard, aw, rfl, State.room_setRoom_same z r _, fun q n => ?_, ?_, ?_, ?_⟩
  · exact (State.room_setRoom_other z r q _ n).trans (room q)
  · exact records.trans (by rw [State.setRoom_sa, sa])
  · exact groups.trans (by rw [State.setRoom_sa, sa])
  · show j = _
    rw [drift, show ({ y with sa := sa', link := { y.link with notice := b } } : State).jk = z.jk from rfl, jk]

/-- What an arrival of the awning at its switch at once leaves. -/
theorem State.awningAtOnce_settles (op : AwningOp) (known : (op.isHome || s.aw.known) = true)
    (present : s.straps.awning = true) :
    let z := if op.isHome then s.zeroAwning else s
    ∃ u, s.settled (s.awningAtOnce op) = u ∧ u.still = s.still ∧ u.arb = s.arb ∧ u.ch = s.ch ∧ u.guard = s.guard
      ∧ u.jk = s.jk ∧ u.rooms = s.rooms ∧ u.fe = z.fe ∧ u.aw = { s.aw with known := true, endPos := .inn }
      ∧ u.sa.records = s.sa.records.set .awning
          (some { op := op.operation, reason := .arrived, positions := .awning z.fe.awningCount.live, runMs := 0
                  peak := 0 })
      ∧ u.sa.groups = s.sa.groups.set .awning true := by
  intro z
  have frame : z.arb = s.arb ∧ z.ch = s.ch ∧ z.guard = s.guard ∧ z.aw = s.aw ∧ z.rooms = s.rooms ∧ z.sa = s.sa
      ∧ z.jk = s.jk ∧ z.straps = s.straps := by
    simp only [z]
    split <;> exact ⟨rfl, rfl, rfl, rfl, rfl, rfl, rfl, rfl⟩
  obtain ⟨arb, ch, guard, aw, rooms, sa, jk, straps⟩ := frame
  let y := z.modAw fun a => { a with known := op.isHome || a.known, endPos := .inn }
  obtain ⟨sa', b, eq, records, groups⟩ := State.recordEnd_present y .awning
    { op := op.operation, reason := .arrived, positions := .awning z.fe.awningCount.live, runMs := 0, peak := 0 }
    (by rw [State.modAw_straps, straps]; exact present)
  have once : s.awningAtOnce op = { y with sa := sa', link := { y.link with notice := b } } := eq
  have still : (s.awningAtOnce op).still = s.still := State.still_awningAtOnce s op
  refine ⟨_, State.settled_same s _ (by rw [once]; exact arb), ?_⟩
  rw [once] at still ⊢
  refine ⟨still, arb, ch, guard, jk, rooms, rfl, ?_, ?_, ?_⟩
  · show ({ z.aw with known := op.isHome || z.aw.known, endPos := .inn } : Awning) = _
    rw [aw, known]
  · exact records.trans (by rw [State.modAw_sa, sa])
  · exact groups.trans (by rw [State.modAw_sa, sa])

theorem State.startRoom_atOnce {r : RoomId} (home : Bool) (locked : s.inAndLocked r = true) :
    s.startRoom r home .inn = s.roomAtOnce r home := by simp [State.startRoom, locked]

theorem State.startAwning_atOnce (op : AwningOp) (stowed : s.stowed = true) :
    s.startAwning op .inn false = s.awningAtOnce op := by simp [State.startAwning, stowed]

/-- Settles O22: a room in and locked, and an awning at its switch, arrive with no grant, no claim and no channel. -/
theorem arrivalsAtOnce : Obligations.ArrivalsAtOnce := by
  unfold Obligations.ArrivalsAtOnce
  refine ⟨fun s tag r v ready clear locked => ⟨?_, fun known => ?_⟩,
    fun s tag v ready clear stowed => ⟨?_, fun known => ?_⟩⟩
  · obtain ⟨present, -⟩ := clear.checks
    obtain ⟨u, eq, still, arb, ch, guard, aw, fe, room, others, records, groups, jk⟩ :=
      State.roomAtOnce_settles s r true present
    obtain ⟨l, next, reply, framed⟩ := ready.takes tag (.roomHome r) [] u rfl rfl still
    have sense : u.sense r = { s.sense r with fore := .zero, aft := .zero } := by
      rw [State.sense, fe]; exact State.sense_setSense_same s r _
    refine ⟨_, ?_, reply, ⟨arb, ch, guard, aw, framed, ?_, ?_, others, ?_, groups, jk⟩, ?_, ?_, ?_⟩
    · rw [← next, ← eq, ← State.startRoom_atOnce s true locked, ← State.onRoomHome_taken clear]; rfl
    · exact (congrArg Room.st room).trans clear.2.1
    · exact congrArg Room.endPos room
    · refine records.trans ?_
      rw [if_pos rfl, if_pos rfl, State.roomPositions, State.zeroRoom, State.sense_setSense_same]
      rfl
    · exact congrArg RoomSense.fore sense
    · exact congrArg RoomSense.aft sense
    · exact congrArg Room.known room
  · obtain ⟨present, -⟩ := clear.checks
    obtain ⟨u, eq, still, arb, ch, guard, aw, fe, room, others, records, groups, jk⟩ :=
      State.roomAtOnce_settles s r false present
    obtain ⟨l, next, reply, framed⟩ := ready.takes tag (.roomMove r .inn v) [0, 0, 0] u rfl rfl still
    refine ⟨_, ?_, reply, ⟨arb, ch, guard, aw, framed, ?_, ?_, others, records, groups, jk⟩, fe, ?_⟩
    · rw [← next, ← eq, ← State.startRoom_atOnce s false locked, ← State.onRoomMove_taken v clear known]; rfl
    · exact (congrArg Room.st room).trans clear.2.1
    · exact congrArg Room.endPos room
    · exact (congrArg Room.known room).trans known
  · obtain ⟨present, -⟩ := clear.checks
    obtain ⟨u, eq, still, arb, ch, guard, jk, rooms, fe, aw, records, groups⟩ :=
      State.awningAtOnce_settles s .home rfl present
    obtain ⟨l, next, reply, framed⟩ := ready.takes tag .awningHome [] u rfl rfl still
    refine ⟨_, ?_, reply, ⟨arb, ch, guard, jk, rooms, framed, aw, groups, records⟩, ?_⟩
    · rw [← next, ← eq, ← State.startAwning_atOnce s .home stowed, ← State.onAwningHome_taken clear]; rfl
    · exact congrArg FrontEnd.awningCount fe
  · obtain ⟨present, -⟩ := clear.checks
    obtain ⟨u, eq, still, arb, ch, guard, jk, rooms, fe, aw, records, groups⟩ :=
      State.awningAtOnce_settles s .move known present
    obtain ⟨l, next, reply, framed⟩ := ready.takes tag (.awningMove .inn v) [0, 0, 0] u rfl rfl still
    refine ⟨_, ?_, reply, ⟨arb, ch, guard, jk, rooms, framed, aw, groups, records⟩, fe⟩
    rw [← next, ← eq, ← State.startAwning_atOnce s .move stowed, ← State.onAwningMove_taken v clear known]; rfl

end Sys2Proof.Machine
end

section
/-!
PROOFS. The requests of the levelling engine that are taken: LEVEL AUTO (O23), LEVEL STOW (O24), a jog (O25).
-/

namespace Sys2Proof.Machine

open Sys2Proof

variable (s : State)

/-! ## What taking a JACKS operation does (R24, R143) -/

/-- The highest readings of the group restart, and its channels stay as they were otherwise. -/
theorem State.takeJacks_chan (w : JackWork) (c : ChannelId) :
    (s.takeJacks w).chan c = if c.owner = .jacks then { s.chan c with peak := 0 } else s.chan c :=
  State.clearPeaks_chan s .jacks c

theorem State.takeJacks_mode (w : JackWork) (c : ChannelId) : ((s.takeJacks w).chan c).mode = (s.chan c).mode := by
  rw [State.takeJacks_chan]
  split <;> rfl

theorem State.takeJacks_peak (w : JackWork) (c : ChannelId) :
    ((s.takeJacks w).chan c).peak = if c.owner = .jacks then 0 else (s.chan c).peak := by
  rw [State.takeJacks_chan]
  split <;> rfl

theorem State.chan_of_ch {s t : State} (e : t.ch = s.ch) (c : ChannelId) : t.chan c = s.chan c := by
  rw [State.chan, State.chan, e]

/-- A LEVEL AUTO as it begins (R24). -/
def State.levelTaken (s : State) : State :=
  { s.takeJacks (.levelling .airDump) with jk := (s.takeJacks (.levelling .airDump)).jk.clearRun s.filterFull }

/-- What a LEVEL AUTO finds captured, cleared and claimed when it is taken, with every channel and every other group as it
was (R24). -/
def State.runTaken (s t : State) : Prop :=
  t.jk.cap = s.jackCapture ∧ t.jk.passes = 0 ∧ t.jk.runMs = 0 ∧ t.jk.driftLeft = none ∧ t.jk.touch = .all none
    ∧ t.jk.steepDone = s.filterFull ∧ t.jk.result = s.jk.result ∧ t.guard.jackWork = true ∧ t.othersAsIn s
    ∧ (∀ c, (t.chan c).mode = (s.chan c).mode) ∧ t.fe = s.fe ∧ t.sa.records = s.sa.records

theorem State.levelTaken_taken : s.runTaken s.levelTaken := by
  refine ⟨?_, ?_, ?_, ?_, ?_, ?_, ?_, ?_, ⟨?_, ?_, ?_, ?_⟩, State.takeJacks_mode s (.levelling .airDump), ?_, ?_⟩
  all_goals simp [State.levelTaken, State.takeJacks, Levelling.clearRun, State.claimJacks]

/-- Only the engine's phase, waits and lines, and the arbiter, may differ from the run as it was taken. -/
theorem State.runTaken.with_phase {t : State} (taken : s.runTaken t) (st : JackState) (air wait : Option Nat) (dump : Bool)
    (arb : Arbiter) :
    s.runTaken { t with jk := { t.jk with st := st, airLeft := air, waitLeft := wait, dumpReq := dump }, arb := arb } := taken

theorem State.startLevel_eq : s.startLevel = (if s.straps.airsusp then
    ({ s.levelTaken with jk := { s.levelTaken.jk with
        dumpReq := s.straps.airsusp, airLeft := some 45000 } } : State).airDumpIfReady
  else s.levelTaken.enterTouchdown) := rfl

/-- With the air suspension present and not exhausted the run waits in AIR_DUMP with DUMP_REQ (R25). -/
theorem State.startLevel_airDump (susp : s.straps.airsusp = true) (air : s.inputs.airDumped.level = false) :
    ∃ u, s.startLevel = u ∧ s.runTaken u ∧ u.jk.st = .work (.levelling .airDump) ∧ u.jk.airLeft = some 45000
      ∧ u.jk.dumpReq = true ∧ u.arb = s.arb := by
  have waits : ∀ u : State, u.inputs.airDumped.level = false → u.airDumpIfReady = u := fun u dry => by
    simp [State.airDumpIfReady, dry]
  rw [State.startLevel_eq, if_pos susp, susp]
  exact ⟨_, waits _ air, State.runTaken.with_phase s (State.levelTaken_taken s) _ _ _ _ _, rfl, rfl, rfl, rfl⟩

/-- Without air suspension the run stands in TOUCHDOWN with the pump granted (R24, R26). -/
theorem State.startLevel_touchdown (susp : s.straps.airsusp = false) (fits : s.fits s.jackCapture.draw) :
    ∃ u, s.startLevel = u ∧ s.runTaken u ∧ u.jk.st = .work (.levelling .touchdown) ∧ u.jk.airLeft = none
      ∧ u.jk.dumpReq = s.jk.dumpReq ∧ u.arb = s.arb.withPump s.jackCapture.draw := by
  rw [State.startLevel_eq, susp, if_neg Bool.false_ne_true, State.enterTouchdown_fits s.levelTaken fits]
  exact ⟨_, rfl, State.runTaken.with_phase s (State.levelTaken_taken s) _ _ _ _ _, rfl, rfl, rfl, rfl⟩

/-- Settles O23: the run enters AIR_DUMP with DUMP_REQ, or TOUCHDOWN with the pump granted. -/
theorem levelAutoTaken : Obligations.LevelAutoTaken := by
  unfold Obligations.LevelAutoTaken
  intro s tag ready clear steep
  refine ⟨fun susp air => ?_, fun susp fits => ?_⟩
  · obtain ⟨u, start, taken, st, left, dump, arb⟩ := State.startLevel_airDump s susp air
    have answer : s.onLevelAuto = (.ok [], u.restance) := by
      rw [State.onLevelAuto_taken clear steep, start, State.settled_same s u arb]
    obtain ⟨l, next, reply, framed⟩ := ready.takes tag .levelAuto [] u.restance rfl rfl (by simp [← start])
    obtain ⟨cap, passes, run, drift, touch, steepDone, result, claim, others, mode, fe, records⟩ := taken
    exact ⟨_, by rw [← next, ← answer]; rfl, reply,
      ⟨cap, passes, run, drift, touch, steepDone, result, claim, others, mode, fe, records, framed⟩, st, left, dump, arb⟩
  · obtain ⟨u, start, taken, st, left, dump, arb⟩ := State.startLevel_touchdown s susp fits
    have answer : s.onLevelAuto = (.ok [], u.restance) := by
      rw [State.onLevelAuto_taken clear steep, start, State.settled_nil s u (by rw [arb]; rfl)]
    obtain ⟨l, next, reply, framed⟩ := ready.takes tag .levelAuto [] u.restance rfl rfl (by simp [← start])
    obtain ⟨cap, passes, run, drift, touch, steepDone, result, claim, others, mode, fe, records⟩ := taken
    exact ⟨_, by rw [← next, ← answer]; rfl, reply,
      ⟨cap, passes, run, drift, touch, steepDone, result, claim, others, mode, fe, records, framed⟩, st, left, dump,
      congrArg Arbiter.grants arb⟩

/-! ## LEVEL STOW (R45, R46) -/

/-- A JACKS operation as it was taken, with the pump granted. -/
def State.pumpTaken (s : State) (w : JackWork) : State :=
  { s.takeJacks w with
    jk := { (s.takeJacks w).jk with waitLeft := none }, arb := s.arb.withPump s.jackCapture.draw }

theorem State.pumpTaken_mode (w : JackWork) (c : ChannelId) : ((s.pumpTaken w).chan c).mode = (s.chan c).mode :=
  State.takeJacks_mode s w c

theorem State.pumpTaken_peak (w : JackWork) (c : ChannelId) :
    ((s.pumpTaken w).chan c).peak = if c.owner = .jacks then 0 else (s.chan c).peak := State.takeJacks_peak s w c

theorem State.pumpTaken_spec (w : JackWork) :
    (s.pumpTaken w).jk.st = .work w ∧ (s.pumpTaken w).jk.runMs = 0 ∧ (s.pumpTaken w).guard.jackWork = true
      ∧ (s.pumpTaken w).othersAsIn s ∧ (s.pumpTaken w).sa = s.sa ∧ (s.pumpTaken w).fe = s.fe := by
  refine ⟨?_, ?_, ?_, ⟨?_, ?_, ?_, ?_⟩, ?_, ?_⟩
  all_goals simp [State.pumpTaken, State.takeJacks, State.claimJacks]

/-- A stow that is granted at once stands with the retract valves of its jacks open (R46). -/
theorem State.stow_granted (fits : s.fits s.jackCapture.draw) :
    ∃ u, (s.takeJacks .stowing).askPump = u ∧ u.jk.st = .work .stowing ∧ u.jk.runMs = 0 ∧ u.guard.jackWork = true
      ∧ u.othersAsIn s ∧ u.sa.records = s.sa.records ∧ u.arb = s.arb.withPump s.jackCapture.draw
      ∧ (∀ j ∈ s.presentJacks, s.retracted j = false → (u.chan (.valve j)).mode = .driven .second 100)
      ∧ (∀ j, s.retracted j = true → (u.chan (.valve j)).mode = (s.chan (.valve j)).mode)
      ∧ ((∃ j ∈ s.presentJacks, s.retracted j = false) → u.driven .pump = true)
      ∧ ∀ c, (u.chan c).peak = if c.owner = .jacks then 0 else (s.chan c).peak := by
  obtain ⟨⟨ch, frame⟩, opened, closed, pump, peak⟩ := State.openAbove_spec (s.pumpTaken .stowing) s.presentJacks
  obtain ⟨st, run, claim, others, sa, -⟩ := State.pumpTaken_spec s .stowing
  refine ⟨(s.pumpTaken .stowing).openAbove s.presentJacks,
    State.askPump_fits (s.takeJacks .stowing) fits rfl (by rw [frame]; rfl), ?_, ?_, ?_, ?_, ?_, ?_, opened,
    fun j down => ?_, fun some => pump (.inr some), fun c => ?_⟩
  · rw [frame]; exact st
  · rw [frame]; exact run
  · rw [frame]; exact claim
  · rw [frame]; exact others
  · rw [frame]; exact congrArg StanceAttention.records sa
  · rw [frame]; rfl
  · rw [closed j (.inr down), State.pumpTaken_mode]
  · rw [peak, State.pumpTaken_peak]

/-- Settles O24: a retracted group arrives at once; any other opens the retract valves of its jacks above 5 mm. -/
theorem levelStowTaken : Obligations.LevelStowTaken := by
  unfold Obligations.LevelStowTaken
  intro s tag ready clear
  refine ⟨fun retracted => ?_, fun above fits => ?_⟩
  · obtain ⟨sa, b, eq, records, groups⟩ := State.recordEnd_present s .jacks
      { op := .levelStow, reason := .arrived, positions := s.strokeRecord, runMs := 0, peak := 0 } rfl
    have once : s.stowAtOnce = { s with sa := sa, link := { s.link with notice := b } } := eq
    have answer : s.onLevelStow = (.ok [], s.stowAtOnce.restance) := by
      rw [State.onLevelStow_taken clear, if_pos retracted, State.settled_same s _ (by rw [once])]
    obtain ⟨l, next, reply, -⟩ := ready.takes tag .levelStow [] s.stowAtOnce.restance rfl rfl (by simp)
    refine ⟨_, by rw [← next, ← answer]; rfl, reply, ?_⟩
    rw [once]
    exact ⟨rfl, rfl, rfl, rfl, congrArg (PerGroup.get · .jacks) groups, records⟩
  · obtain ⟨u, granted, st, run, claim, others, records, arb, opened, closed, pump, peak⟩ := State.stow_granted s fits
    have answer : s.onLevelStow = (.ok [], u.restance) := by
      rw [State.onLevelStow_taken clear, if_neg above, granted, State.settled_nil s u (by rw [arb]; rfl)]
    obtain ⟨l, next, reply, framed⟩ := ready.takes tag .levelStow [] u.restance rfl rfl (by simp [← granted])
    exact ⟨_, by rw [← next, ← answer]; rfl, reply, st, run, claim, others, records, framed, opened, closed, pump, peak,
      congrArg Arbiter.grants arb⟩

/-! ## A jog (R47, R48) -/

/-- More than 2 mm away from its target a jack is driven towards it (R48). -/
theorem State.openTowards_far (j : JackId) (target : Int) (far : 2 < absInt (s.strokeD j - target)) :
    s.openTowards j target = s.openValve j (if s.strokeD j < target then .first else .second) := by
  unfold absInt at far
  unfold State.openTowards
  by_cases below : s.strokeD j < target
  · rw [if_pos (by omega), if_pos below]
  · rw [if_neg (by omega), if_pos (by omega), if_neg below]

/-- A jog as it is taken, before it asks for the pump (R47). -/
def State.jogStarted (s : State) (j : JackId) (v : Half) : State :=
  { s.takeJacks .jogging with jk := { (s.takeJacks .jogging).jk with
      jog := some { jack := j, target := s.jogTarget v, runMs := 0 }, holdLeft := some s.jackCapture.holdLapse
      dumpReq := if s.jogExtends j v then s.straps.airsusp else s.jk.dumpReq } }

theorem State.startJog_eq (j : JackId) (v : Half) : s.startJog j v = (s.jogStarted j v).askPump := by
  unfold State.startJog State.jogStarted
  cases s.jogExtends j v <;> rfl

/-- A jog with the pump granted, its valve not yet driven. -/
def State.jogGranted (s : State) (j : JackId) (v : Half) : State :=
  { s.jogStarted j v with
    jk := { (s.jogStarted j v).jk with waitLeft := none }, arb := s.arb.withPump s.jackCapture.draw }

theorem State.jogGranted_spec (j : JackId) (v : Half) :
    (s.jogGranted j v).jk.st = .work .jogging ∧ (s.jogGranted j v).guard.jackWork = true
      ∧ (s.jogGranted j v).othersAsIn s ∧ (s.jogGranted j v).fe = s.fe
      ∧ ∀ c, ((s.jogGranted j v).chan c).mode = (s.chan c).mode := by
  obtain ⟨st, -, claim, others, -, fe⟩ := State.pumpTaken_spec s .jogging
  exact ⟨st, claim, others, fe, State.takeJacks_mode s .jogging⟩

/-- A jog that is granted away from its target opens its valve in the same event (R48). -/
theorem State.startJog_fits (j : JackId) (v : Half) (fits : s.fits s.jackCapture.draw)
    (far : 2 < absInt (s.strokeD j - s.jogTarget v)) :
    s.startJog j v = (s.jogGranted j v).openValve j (if s.strokeD j < s.jogTarget v then .first else .second) := by
  have acts : (s.jogGranted j v).jogDrive = (s.jogGranted j v).openTowards j (s.jogTarget v) := by
    have jog : (s.jogGranted j v).jk.jog = some { jack := j, target := s.jogTarget v, runMs := 0 } := rfl
    have away : ¬ absInt ((s.jogGranted j v).strokeD j - s.jogTarget v) ≤ 2 := by
      rw [show (s.jogGranted j v).strokeD j = s.strokeD j from rfl]; omega
    simp only [State.jogDrive, jog]
    exact if_neg away
  rw [State.openTowards_far (s.jogGranted j v) j _ far] at acts
  rw [State.startJog_eq]
  exact State.askPump_fits (s.jogStarted j v) fits acts (by rw [State.openValve_arb]; rfl)

/-- Settles O25: a granted jog drives its valve towards the clamped target. -/
theorem jogTaken : Obligations.JogTaken := by
  unfold Obligations.JogTaken
  intro s tag j v target ext ready present clear fits far
  have start := State.startJog_fits s j v fits far
  generalize d : (if s.strokeD j < s.jogTarget v then ChanDir.first else ChanDir.second) = dir at start
  obtain ⟨valve, pump, rest⟩ := State.openValve_spec (s.jogGranted j v) j dir
  obtain ⟨ch, frame⟩ := State.openValve_ch (s.jogGranted j v) j dir
  obtain ⟨st, claim, others, fe, mode⟩ := State.jogGranted_spec s j v
  have answer : s.onJog j v = (.ok (clampFields v.toInt target), ((s.jogGranted j v).openValve j dir).restance) := by
    rw [State.onJog_taken present clear, start, State.settled_nil s _ (by rw [frame]; rfl)]
  obtain ⟨l, next, reply, framed⟩ :=
    ready.takes tag (.jog j v) (clampFields v.toInt target) ((s.jogGranted j v).openValve j dir).restance rfl rfl
      (by rw [State.still_restance, ← start, State.still_startJog])
  have fields : clampFields v.toInt target = (if v.toInt = target then 0 else 1) :: bytes2 target := by
    unfold clampFields
    split <;> rfl
  rw [fields] at reply
  refine ⟨_, by rw [← next, ← answer]; rfl, reply, ?_, ?_, ?_, ?_, ?_, pump, fun k other => ?_, ?_, ?_, ?_, ?_, framed⟩
  · rw [frame]; exact st
  · rw [frame]; rfl
  · rw [frame]; rfl
  · rw [frame]; rfl
  · refine valve.trans ?_
    rw [← d]
    simp [ext, target]
  · refine Eq.trans (congrArg Channel.mode (rest (.valve k) ?_ ?_)) (mode _)
    · simpa using other
    · simp
  · rw [frame]; rfl
  · rw [frame]; exact claim
  · rw [frame]; exact others
  · rw [frame]; exact fe

end Sys2Proof.Machine
end

section
/-!
PROOFS. The lift plan (O53): the rounding of a height, the highest corner, the deficit and the targets within their limits
(R29, R30).
-/

namespace Sys2Proof.Machine

open Sys2Proof

/-- The quotient is nearest, and a half goes away from zero (R29). -/
theorem divRound_nearest (a : Int) :
    2 * |a - 10000 * divRound a 10000| ≤ 10000
      ∧ (2 * |a - 10000 * divRound a 10000| = 10000 → |a| < |10000 * divRound a 10000|) := by
  simp only [divRound, Int.abs_eq_natAbs]
  split <;> omega

/-! ## The greatest value over a list of jacks -/

theorem le_maxOf (f : JackId → Int) {j : JackId} : ∀ {l : List JackId}, j ∈ l → f j ≤ maxOf f l
  | [], mem => by cases mem
  | [i], mem => by rw [List.mem_singleton.mp mem, maxOf]
  | i :: k :: l, mem => by
    rw [maxOf]
    · rcases List.mem_cons.mp mem with rfl | mem
      · exact le_max_left _ _
      · exact (le_maxOf f mem).trans (le_max_right _ _)
    · simp

theorem maxOf_attained (f : JackId → Int) : ∀ {l : List JackId}, l ≠ [] → ∃ j ∈ l, f j = maxOf f l
  | [], ne => absurd rfl ne
  | [i], _ => ⟨i, List.mem_singleton_self i, rfl⟩
  | i :: k :: l, _ => by
    obtain ⟨j, mem, eq⟩ := maxOf_attained f (List.cons_ne_nil k l)
    rw [maxOf]
    · rcases max_choice (f i) (maxOf f (k :: l)) with first | later
      · exact ⟨i, List.mem_cons_self, first.symm⟩
      · exact ⟨j, List.mem_cons_of_mem _ mem, eq.trans later.symm⟩
    · simp

variable (s : State) (k : Nat)

theorem State.mem_presentJacks {j : JackId} : j ∈ s.presentJacks ↔ s.straps.hasJack j = true := by
  have all : j ∈ JackId.all := by cases j <;> decide
  simp [State.presentJacks, all]

/-- The front jacks are always there (R1). -/
theorem State.presentJacks_ne_nil : s.presentJacks ≠ [] :=
  List.ne_nil_of_mem ((State.mem_presentJacks s (j := .lf)).mpr rfl)

/-! ## The deficit and the base (R30) -/

theorem State.planDeficit_nonneg : 0 ≤ s.planDeficit k := le_max_left _ _

/-- No jack is short by more than the deficit. -/
theorem State.le_planDeficit {i : JackId} (present : s.straps.hasJack i = true) :
    s.planBase k + s.extension i - s.planRoom k i ≤ s.planDeficit k :=
  (le_maxOf (fun j => s.planBase k + s.extension j - s.planRoom k j) ((State.mem_presentJacks s).mpr present)).trans
    (le_max_right _ _)

/-- The deficit is some jack's, or there is none. -/
theorem State.planDeficit_attained :
    s.planDeficit k = 0
      ∨ ∃ i, s.straps.hasJack i = true ∧ s.planDeficit k = s.planBase k + s.extension i - s.planRoom k i := by
  obtain ⟨i, mem, eq⟩ :=
    maxOf_attained (fun j => s.planBase k + s.extension j - s.planRoom k j) (State.presentJacks_ne_nil s)
  rcases max_choice 0 (maxOf (fun j => s.planBase k + s.extension j - s.planRoom k j) s.presentJacks) with none | some
  · exact .inl none
  · exact .inr ⟨i, (State.mem_presentJacks s).mp mem, some.trans eq.symm⟩

theorem State.extension_nonneg {i : JackId} (present : s.straps.hasJack i = true) : 0 ≤ s.extension i :=
  Int.sub_nonneg.mpr (le_maxOf s.height ((State.mem_presentJacks s).mpr present))

theorem State.planTarget_present {i : JackId} (present : s.straps.hasJack i = true) :
    s.planTarget k i = s.planRef k i + s.planBaseUsed k + min (s.extension i) (s.planRoom k i) := by
  rw [State.planTarget, if_pos present]

/-- What is given back of the base leaves every present jack its room: no target exceeds its reference and its room. -/
theorem State.planTarget_le {i : JackId} (present : s.straps.hasJack i = true) :
    s.planTarget k i ≤ s.planRef k i + s.planRoom k i := by
  have short := State.le_planDeficit s k present
  rw [State.planTarget_present s k present, State.planBaseUsed]
  split <;> omega

theorem State.planRoom_le (i : JackId) :
    s.planRef k i + s.planRoom k i ≤ s.touchD i + s.jk.cap.geometry.liftLimit
      ∧ s.planRef k i + s.planRoom k i ≤ s.jk.cap.geometry.strokeMax := by
  simp only [State.planRoom]
  omega

/-- No target lies below the retracted stop (R30). -/
theorem State.planTarget_nonneg {i : JackId} (present : s.straps.hasJack i = true)
    (limit : 0 ≤ s.jk.cap.geometry.liftLimit) (stroke : 0 ≤ s.jk.cap.geometry.strokeMax) (touch : 0 ≤ s.touchD i)
    (ref : 0 ≤ s.planRef k i) : 0 ≤ s.planTarget k i := by
  have extension := State.extension_nonneg s present
  have room : 0 ≤ s.planRef k i + s.planRoom k i := by
    simp only [State.planRoom]
    omega
  rw [State.planTarget_present s k present, State.planBaseUsed]
  split <;> omega

/-- Settles O53: heights, extensions, deficit and targets of the plan. -/
theorem liftPlanComputed : Obligations.LiftPlanComputed := by
  unfold Obligations.LiftPlanComputed
  intro s k
  obtain ⟨top, topMem, topEq⟩ := maxOf_attained s.height (State.presentJacks_ne_nil s)
  refine ⟨s.height, maxOf s.height s.presentJacks, s.planDeficit k, fun i => divRound_nearest _, fun i here => ?_,
    ⟨top, (State.mem_presentJacks s).mp topMem, topEq⟩, State.planDeficit_nonneg s k,
    fun i here => State.le_planDeficit s k here, State.planDeficit_attained s k, fun i here => ⟨?_, ?_⟩, rfl,
    fun i here => ?_, fun limit stroke i here touch ref => ?_⟩
  · exact le_maxOf s.height ((State.mem_presentJacks s).mpr here)
  · rw [State.computePlan, PerJack.get_tab, State.planTarget_present s k here]
    rfl
  · rw [State.computePlan, PerJack.get_tab, State.planClamped, here]
    simp only [Bool.true_and, Bool.and_eq_true, decide_eq_true_eq]
    rfl
  · rw [State.computePlan, PerJack.get_tab]
    obtain ⟨lift, stop⟩ := State.planRoom_le s k i
    have bound := State.planTarget_le s k here
    exact ⟨bound.trans lift, bound.trans stop⟩
  · rw [State.computePlan, PerJack.get_tab]
    exact State.planTarget_nonneg s k here limit stroke touch ref

end Sys2Proof.Machine
end

section
/-!
PROOFS. HOLD (O27): the timers that it restarts, group by group.
-/

namespace Sys2Proof.Machine

open Sys2Proof

variable (s : State)

/-- The hold timer of a room started again (R68). -/
def Room.held (x : Room) : Room := { x with holdLeft := some x.cap.run.holdLapse.toNat, lapsed := false, resumeLeft := none }

/-- The hold timer of a jog started again (R49). -/
def Levelling.held (j : Levelling) : Levelling :=
  { j with holdLeft := some j.cap.holdLapse, lapsed := false, resumeLeft := none }

/-- Whether a HOLD that names the group counts for it (R49, R68, R87). -/
def State.refreshed (s : State) : Group → Bool
  | .jacks => s.jk.st.isJog
  | .room r => s.roomHoldable r
  | .awning => false

/-- No hold has lapsed. -/
def State.noLapse (s : State) : Prop := s.jk.causes.holdLapse = false ∧ ∀ r, (s.room r).causes.holdLapse = false

theorem Causes.holdLapse_clear {c : Causes} (h : c.holdLapse = false) : { c with holdLapse := false } = c := by
  cases c; simp_all

theorem State.holdJog_noLapse (none : s.jk.causes.holdLapse = false) : s.holdJog = { s with jk := s.jk.held } := by
  unfold State.holdJog
  rw [none, Causes.holdLapse_clear none]
  rfl

theorem State.holdRoom_noLapse (r : RoomId) (none : (s.room r).causes.holdLapse = false) :
    s.holdRoom r = s.setRoom r (s.room r).held := by
  unfold State.holdRoom
  dsimp only
  rw [none, Causes.holdLapse_clear none]
  rfl

/-- What HOLDs of the groups of a list have done: their timers restarted, and nothing else but the stance. -/
structure State.HeldFrom (s t : State) (l : List Group) : Prop where
  rooms : ∀ r, t.room r = if .room r ∈ l ∧ s.roomHoldable r = true then (s.room r).held else s.room r
  jk : t.jk = if .jacks ∈ l ∧ s.jk.st.isJog = true then s.jk.held else s.jk
  aw : t.aw = s.aw
  arb : t.arb = s.arb
  ch : t.ch = s.ch
  guard : t.guard = s.guard
  fe : t.fe = s.fe
  records : t.sa.records = s.sa.records

/-- HOLDs move no group from one state to another. -/
theorem State.HeldFrom.same {s t : State} {l : List Group} (held : s.HeldFrom t l) :
    t.jk.st = s.jk.st ∧ t.jk.causes = s.jk.causes ∧ ∀ r, (t.room r).st = (s.room r).st ∧ (t.room r).causes = (s.room r).causes := by
  refine ⟨?_, ?_, fun r => ?_⟩
  · rw [held.jk]; split <;> rfl
  · rw [held.jk]; split <;> rfl
  · rw [held.rooms]; split <;> exact ⟨rfl, rfl⟩

theorem State.HeldFrom.noLapse {s t : State} {l : List Group} (held : s.HeldFrom t l) (none : s.noLapse) : t.noLapse := by
  obtain ⟨-, causes, rooms⟩ := held.same
  exact ⟨by rw [causes, none.1], fun r => by rw [(rooms r).2, none.2 r]⟩

theorem State.HeldFrom.refreshed {s t : State} {l : List Group} (held : s.HeldFrom t l) (g : Group) :
    t.refreshed g = s.refreshed g := by
  obtain ⟨st, -, rooms⟩ := held.same
  cases g with
  | jacks => simp only [State.refreshed, st]
  | room r => simp only [State.refreshed, State.roomHoldable, (rooms r).1]
  | awning => rfl

theorem holdStep_of {n k : Nat} {u : State} {g : Group} (hold : s.holdGroup g = (k, u)) :
    holdStep (n, s) g = (n + k, s.settled u) := by simp only [holdStep, hold]

/-- A HOLD that does not count changes no more than the stance. -/
theorem State.heldFrom_rest (g : Group) (off : s.refreshed g = false) : s.HeldFrom s.restance [g] := by
  refine ⟨fun r => ?_, ?_, rfl, rfl, rfl, rfl, rfl, rfl⟩
  · rw [if_neg]
    · rfl
    · rintro ⟨mem, on⟩
      obtain rfl := List.mem_singleton.mp mem
      exact Bool.false_ne_true (off.symm.trans on)
  · rw [if_neg]
    · rfl
    · rintro ⟨mem, on⟩
      obtain rfl := List.mem_singleton.mp mem
      exact Bool.false_ne_true (off.symm.trans on)

/-- One HOLD of one group, with the stance that follows. -/
theorem State.holdStep_spec (n : Nat) (g : Group) (none : s.noLapse) :
    (holdStep (n, s) g).1 = n + (if s.refreshed g then 1 else 0) ∧ s.HeldFrom (holdStep (n, s) g).2 [g] := by
  obtain ⟨jog, rooms⟩ := none
  by_cases on : s.refreshed g = true
  · rw [if_pos on]
    cases g with
    | awning => cases on
    | jacks =>
      have hold : s.holdGroup .jacks = (1, { s with jk := s.jk.held }) := by
        rw [← State.holdJog_noLapse s jog]; exact if_pos on
      rw [holdStep_of s hold, State.settled_same s { s with jk := s.jk.held } rfl]
      exact ⟨rfl, fun r => by simp [State.room], (if_pos ⟨List.mem_singleton_self _, on⟩).symm, rfl, rfl, rfl, rfl, rfl, rfl⟩
    | room r =>
      have hold : s.holdGroup (.room r) = (1, s.setRoom r (s.room r).held) := by
        rw [← State.holdRoom_noLapse s r (rooms r)]; exact if_pos on
      rw [holdStep_of s hold, State.settled_same s (s.setRoom r (s.room r).held) rfl]
      refine ⟨rfl, fun q => ?_, by simp, rfl, rfl, rfl, rfl, rfl, rfl⟩
      by_cases e : q = r
      · subst e
        rw [if_pos ⟨List.mem_singleton_self _, on⟩]
        exact State.room_setRoom_same s q _
      · rw [if_neg (by simp [e])]
        exact State.room_setRoom_other s r q _ e
  · have hold : s.holdGroup g = (0, s) := by
      cases g with
      | awning => rfl
      | _ => exact if_neg on
    rw [if_neg on, holdStep_of s hold, State.settled_same s s rfl]
    exact ⟨rfl, State.heldFrom_rest s g (by simpa using on)⟩

/-- HOLDs of different groups add up. -/
theorem State.HeldFrom.cons {s u t : State} {g : Group} {l : List Group} (first : s.HeldFrom u [g]) (rest : u.HeldFrom t l)
    (fresh : g ∉ l) : s.HeldFrom t (g :: l) := by
  have holdable : ∀ r, u.roomHoldable r = s.roomHoldable r := fun r => first.refreshed (.room r)
  have isJog : u.jk.st.isJog = s.jk.st.isJog := first.refreshed .jacks
  refine ⟨fun r => ?_, ?_, rest.aw.trans first.aw, rest.arb.trans first.arb, rest.ch.trans first.ch,
    rest.guard.trans first.guard, rest.fe.trans first.fe, rest.records.trans first.records⟩
  · rw [rest.rooms, holdable, first.rooms]
    by_cases e : g = .room r
    · subst e; simp [fresh]
    · have e' : ¬ Group.room r = g := fun k => e k.symm
      simp [e']
  · rw [rest.jk, isJog, first.jk]
    by_cases e : g = .jacks
    · subst e; simp [fresh]
    · have e' : ¬ Group.jacks = g := fun k => e k.symm
      simp [e']

/-- The HOLDs of a list of groups: their number, and what they did. -/
theorem State.holds_spec (l : List Group) (nodup : l.Nodup) (n : Nat) (none : s.noLapse) :
    (l.foldl holdStep (n, s)).1 = n + (l.filter s.refreshed).length ∧ s.HeldFrom (l.foldl holdStep (n, s)).2 l := by
  induction l generalizing n s with
  | nil => exact ⟨rfl, by constructor <;> simp⟩
  | cons g l ih =>
    obtain ⟨fresh, nodup⟩ := List.nodup_cons.mp nodup
    obtain ⟨count, first⟩ := State.holdStep_spec s n g none
    obtain ⟨total, rest⟩ := ih (holdStep (n, s) g).2 nodup (holdStep (n, s) g).1 (first.noLapse none)
    refine ⟨?_, first.cons rest fresh⟩
    rw [List.foldl_cons, total, count, List.filter_cons]
    have same : (holdStep (n, s) g).2.refreshed = s.refreshed := funext first.refreshed
    rw [same]
    split
    · simp; omega
    · rfl

/-- The axes that a HOLD refreshes: the rooms among them, and the jog (R49, R68). -/
theorem State.refreshed_count (mask : Byte) :
    ((s.namedGroups mask).filter s.refreshed).length
      = (RoomId.all.filter fun r => s.straps.hasRoom r && inMask mask (.room r) && s.roomHoldable r).length
        + if inMask mask .jacks && s.jk.st.isJog then 1 else 0 := by
  have jacks : s.straps.hasGroup .jacks = true := rfl
  have groups : (s.namedGroups mask).filter s.refreshed
      = Group.all.filter fun g => s.straps.hasGroup g && (inMask mask g && s.refreshed g) := by
    simp only [State.namedGroups, State.presentGroups, List.filter_filter]
    exact List.filter_congr fun g _ => by ac_rfl
  have split : Group.all = .jacks :: (RoomId.all.map .room ++ [.awning]) := rfl
  rw [groups, split, List.filter_cons, List.filter_append, List.filter_map]
  have rooms : ((fun g => s.straps.hasGroup g && (inMask mask g && s.refreshed g)) ∘ Group.room)
      = fun r => s.straps.hasRoom r && inMask mask (.room r) && s.roomHoldable r := by
    funext r
    simp [Straps.hasGroup, State.refreshed, Bool.and_assoc]
  rw [rooms]
  simp only [jacks, State.refreshed, Bool.true_and, Bool.and_false, List.filter_cons, List.filter_nil]
  cases inMask mask .jacks && s.jk.st.isJog <;> simp

/-- Settles O27: the timers of the axes that are named and run under hold-to-run start again, and are counted. -/
theorem holdRestartsTimers : Obligations.HoldRestartsTimers := by
  unfold Obligations.HoldRestartsTimers
  intro s tag mask ready wf jogHeld roomsHeld held jog
  obtain ⟨count, kept⟩ :=
    State.holds_spec s (s.namedGroups mask) (State.namedGroups_nodup s mask) 0 ⟨jogHeld, roomsHeld⟩
  have answer : s.onHold mask
      = (.ok [byteNum ((RoomId.all.filter held).length + if jog then 1 else 0)],
          ((s.namedGroups mask).foldl holdStep (0, s)).2) := by
    rw [State.onHold, count, State.refreshed_count, Nat.zero_add]
    rfl
  obtain ⟨l, next, reply, framed⟩ := ready.takes tag (.hold mask) _ ((s.namedGroups mask).foldl holdStep (0, s)).2 wf rfl
    (still_holdStep (s.namedGroups mask) (0, s))
  refine ⟨_, by rw [← next, ← answer]; rfl, reply, fun r => ?_, ?_, kept.aw, kept.arb, kept.ch, kept.guard, kept.fe,
    kept.records, framed⟩
  · refine (kept.rooms r).trans ?_
    simp only [State.mem_namedGroups, held, Bool.and_eq_true]
    rfl
  · refine kept.jk.trans ?_
    simp only [State.mem_namedGroups, jog, Bool.and_eq_true, Straps.hasGroup, true_and]
    rfl

end Sys2Proof.Machine
end

section
/-!
PROOFS. STOP and RESUME (O29): the ends of the groups named, and the groups that leave the freeze set.
-/

namespace Sys2Proof.Machine

open Sys2Proof

variable (s : State)

/-! ## The groups that leave the freeze set (R137) -/

theorem State.resumeGroup_freeze (g h : Group) :
    (s.resumeGroup g).guard.freeze.get h = (s.guard.freeze.get h && !decide (h = g)) := by
  have cleared : (s.guard.freeze.set g false).get h = (s.guard.freeze.get h && !decide (h = g)) := by
    by_cases e : h = g
    · subst e; simp
    · simp [PerGroup.get_set_other _ _ _ _ e, e]
  unfold State.resumeGroup
  split
  · dsimp only
    rw [State.freeze_settled, State.freeze_unfreezeOp, cleared]
  · rename_i free
    by_cases e : h = g
    · subst e
      simpa [State.frozen] using free
    · simp [e]

theorem State.resumeGroups_freeze (l : List Group) (h : Group) :
    (l.foldl State.resumeGroup s).guard.freeze.get h = (s.guard.freeze.get h && !decide (h ∈ l)) := by
  induction l generalizing s with
  | nil => simp
  | cons g l ih =>
    rw [List.foldl_cons, ih, State.resumeGroup_freeze]
    simp [List.mem_cons, Bool.and_assoc]

/-! ## Masks of groups (9.4) -/

theorem sum_bits_filter (p q : Group → Bool) (l : List Group) :
    ((l.filter q).map fun g => bitOf (p g) (groupBit g)).sum = (l.map fun g => bitOf (p g && q g) (groupBit g)).sum := by
  induction l with
  | nil => rfl
  | cons g l ih =>
    have none : ∀ n, bitOf false n = 0 := fun _ => rfl
    cases named : q g <;> simp [named, ih, none]

/-- A mask byte has the bit of a group exactly when the group is in the set. -/
theorem mask_getLsbD (p : Group → Bool) (g : Group) :
    (byteOf (Group.all.map fun g => bitOf (p g) (groupBit g)).sum).getLsbD (groupBit g) = p g := by
  have bits : ∀ a b c d e f : Bool,
      let byte := byteOf ([(a, 0), (b, 1), (c, 2), (d, 3), (e, 4), (f, 5)].map fun x => bitOf x.1 x.2).sum
      byte.getLsbD 0 = a ∧ byte.getLsbD 1 = b ∧ byte.getLsbD 2 = c ∧ byte.getLsbD 3 = d ∧ byte.getLsbD 4 = e
        ∧ byte.getLsbD 5 = f := by decide
  obtain ⟨jacks, room0, room1, room2, room3, awning⟩ := bits (p .jacks) (p (.room .room0)) (p (.room .room1))
    (p (.room .room2)) (p (.room .room3)) (p .awning)
  rcases g with _ | r | _
  · exact jacks
  · cases r
    · exact room0
    · exact room1
    · exact room2
    · exact room3
  · exact awning

/-- Settles O29: STOP ends what it names but a stow, RESUME takes what it names out of the freeze set. -/
theorem stopAndResume : Obligations.StopAndResume := by
  unfold Obligations.StopAndResume
  refine ⟨fun s tag mask ready wf => ?_, fun s tag mask ready wf => ?_⟩
  · obtain ⟨l, next, reply, framed⟩ :=
      ready.takes tag (.stop mask) [] (s.endMoves (s.namedGroups mask) .hostStop) wf rfl (by simp)
    have unnamed : ∀ g, inMask mask g = false → g ∈ s.namedGroups mask → g = .awning ∧ s.aw.moving = false := by
      intro g out mem
      have named := ((State.mem_namedGroups s mask).mp mem).2
      exact absurd (out.symm.trans named) Bool.false_ne_true
    refine ⟨_, next, reply, fun g named present work moves => ?_, fun stow free => ?_, fun nobody => ⟨?_, ?_, ?_⟩, ?_, framed⟩
    · have ended := State.endMoves_over s .hostStop (s.namedGroups mask) (State.namedGroups_nodup s mask)
        ((State.mem_namedGroups s mask).mpr ⟨present, named⟩) work moves
      exact State.endedWith_of_view (State.view_with_link _ l) rfl ended.1
    · have still : s.aw.moving = false := by
        rw [← Bool.not_eq_true, Awning.moving_iff]
        simp [stow]
      have same := State.view_endMoves s .hostStop (s.namedGroups mask) (g := .awning) (fun _ => ⟨rfl, still⟩) free
      exact ⟨State.aw_of_view same, State.chan_of_view same .awning rfl⟩
    · intro c out
      exact State.chan_of_view (State.view_endMoves s .hostStop _ (unnamed c.owner out) (State.waits_of_nil s _ nobody)) c rfl
    · intro out
      exact State.aw_of_view (State.view_endMoves s .hostStop _ (unnamed .awning out) (State.waits_of_nil s _ nobody))
    · intro r out
      exact State.room_of_view (State.view_endMoves s .hostStop _ (unnamed (.room r) out) (State.waits_of_nil s _ nobody))
    · exact (State.freeze_settled s _).trans (State.freeze_endEach s .hostStop _)
  · let left := byteOf ((s.namedGroups mask).map fun g => bitOf (s.frozen g) (groupBit g)).sum
    obtain ⟨l, next, reply, framed⟩ := ready.takes tag (.resume mask) [left]
      ((s.namedGroups mask).foldl State.resumeGroup s) wf rfl (State.still_foldl _ State.still_resumeGroup _ _)
    refine ⟨_, left, next, reply, fun g => ?_, fun g => ?_, framed⟩
    · refine (State.resumeGroups_freeze s (s.namedGroups mask) g).trans ?_
      rw [Bool.eq_iff_iff]
      simp [State.mem_namedGroups, and_comm]
    · have byte : left = byteOf (Group.all.map fun g =>
          bitOf (s.frozen g && inMask mask g && s.straps.hasGroup g) (groupBit g)).sum := by
        simp only [left, State.namedGroups, State.presentGroups, sum_bits_filter]
      rw [byte, mask_getLsbD]
      rfl

end Sys2Proof.Machine
end

section
/-!
PROOFS. The hold timers (O49), and the timers and budgets that end an operation (O50).
-/

namespace Sys2Proof.Machine

open Sys2Proof

variable (s : State)

/-! ## Rows of an awake part -/

/-- The outcome of a row on an awake part, up to what the transmit path does. -/
theorem State.awake_next (awake : s.power = .awake) (u : State) :
    ∃ l : Link, s.ifAwake u = .next { u with link := l } ∧ ({ u with link := l } : State).framed = u.framed := by
  obtain ⟨l, eq, -⟩ := State.kick_link u
  exact ⟨l, by rw [State.ifAwake_awake s u awake, eq], by rw [← eq, State.kick_framed]⟩

/-! ## A hold timer runs out (R49, R69) -/

theorem State.roomOff_still (r : RoomId) : (s.roomOff r).roomStill r := by
  refine ⟨?_, ?_, ?_⟩ <;> simp [State.driven, State.roomOff_chan]

/-- The hold of a room lapses: it is suspended with every channel off, and the resume window starts (R69). -/
theorem State.lapseRoom_spec (r : RoomId) (w : RoomWork)
    (st : (s.room r).st = .work w ∨ (s.room r).st = .suspended w) :
    ∃ t, s.lapseRoom r = t ∧ t.roomStill r ∧ t.arb = s.arb ∧ t.guard = s.guard ∧ t.fe = s.fe ∧ t.sa = s.sa
      ∧ t.clock = s.clock
      ∧ t.room r = { s.room r with
          st := .suspended w, pinLeft := none, ctrlLeft := none, lapsed := false
          causes := { (s.room r).causes with holdLapse := true }
          resumeLeft := some ((s.room r).cap.run.resumeWindow.toNat * 1000) } := by
  have off : (s.roomOff r).room r = s.room r := by simp [State.room]
  have still := State.roomOff_still s r
  refine ⟨_, rfl, still, ?_, ?_, ?_, ?_, ?_, ?_⟩
  all_goals simp only [State.lapseRoom, State.haltRoom, State.setRoom_arb, State.setRoom_guard, State.setRoom_fe,
    State.setRoom_sa, State.setRoom_clock, State.roomOff_arb, State.roomOff_guard, State.roomOff_fe, State.roomOff_sa,
    State.roomOff_clock, State.room_setRoom_same, off]
  rcases st with st | st <;> simp only [st]

/-- The hold timer of a room runs out: of a frozen room the lapse is only marked (R69). -/
theorem State.roomHoldOut_spec (r : RoomId) (w : RoomWork)
    (st : (s.room r).st = .work w ∨ (s.room r).st = .suspended w) :
    ∃ t, s.roomHoldOut r = t ∧ t.arb = s.arb ∧ t.guard = s.guard ∧ t.fe = s.fe ∧ t.sa = s.sa ∧ t.clock = s.clock
      ∧ (t.room r).holdLeft = none ∧ (t.room r).known = (s.room r).known ∧ (t.room r).endPos = (s.room r).endPos
      ∧ ((s.room r).causes.freeze = false → (t.room r).st = .suspended w ∧ t.roomStill r ∧ (t.room r).lapsed = false
          ∧ (t.room r).causes = { (s.room r).causes with holdLapse := true }
          ∧ (t.room r).resumeLeft = some ((s.room r).cap.run.resumeWindow.toNat * 1000))
      ∧ ((s.room r).causes.freeze = true → (t.room r).st = (s.room r).st ∧ (t.room r).causes = (s.room r).causes
          ∧ (t.room r).lapsed = true ∧ t.ch = s.ch) := by
  obtain ⟨u, stopped⟩ : ∃ u, s.setRoom r { s.room r with holdLeft := none } = u := ⟨_, rfl⟩
  have room : u.room r = { s.room r with holdLeft := none } := by rw [← stopped, State.room_setRoom_same]
  have frame : u.arb = s.arb ∧ u.guard = s.guard ∧ u.fe = s.fe ∧ u.sa = s.sa ∧ u.clock = s.clock ∧ u.ch = s.ch := by
    subst stopped; exact ⟨rfl, rfl, rfl, rfl, rfl, rfl⟩
  obtain ⟨arb, guard, fe, sa, clock, ch⟩ := frame
  have out : s.roomHoldOut r
      = (if (u.room r).causes.freeze then u.setRoom r { u.room r with lapsed := true } else u.lapseRoom r) := by
    subst stopped; rfl
  have freeze : (u.room r).causes.freeze = (s.room r).causes.freeze := by rw [room]
  rw [out, freeze]
  cases frozen : (s.room r).causes.freeze
  · obtain ⟨t, lapse, still, arb', guard', fe', sa', clock', after⟩ :=
      State.lapseRoom_spec u r w (by rw [room]; exact st)
    rw [room] at after
    exact ⟨t, lapse, arb'.trans arb, guard'.trans guard, fe'.trans fe, sa'.trans sa, clock'.trans clock, by rw [after],
      by rw [after], by rw [after], fun _ => ⟨by rw [after], still, by rw [after], by rw [after], by rw [after]⟩, by simp⟩
  · have after := State.room_setRoom_same u r { u.room r with lapsed := true }
    rw [if_pos rfl]
    exact ⟨_, rfl, arb, guard, fe, sa, clock, by rw [after, room], by rw [after, room], by rw [after, room], by simp,
      fun _ => ⟨by rw [after, room], by rw [after, room], by rw [after], ch⟩⟩

/-- The hold timer of a jog runs out: of a frozen jog the lapse is only marked (R49). -/
theorem State.jogHoldOut_spec (st : s.jk.st = .work .jogging ∨ s.jk.st = .suspended .jogging) :
    ∃ t, s.jogHoldOut = t ∧ t.arb = s.arb ∧ t.guard = s.guard ∧ t.fe = s.fe ∧ t.sa = s.sa ∧ t.clock = s.clock
      ∧ t.jk.holdLeft = none
      ∧ (s.jk.causes.freeze = false → t.jk.st = .suspended .jogging ∧ t.groupOff .jacks ∧ t.jk.lapsed = false
          ∧ t.jk.causes = { s.jk.causes with holdLapse := true } ∧ t.jk.resumeLeft = some s.jk.cap.resumeWindow)
      ∧ (s.jk.causes.freeze = true → t.jk.st = s.jk.st ∧ t.jk.causes = s.jk.causes ∧ t.jk.lapsed = true ∧ t.ch = s.ch) := by
  let u : State := { s with jk := { s.jk with holdLeft := none } }
  have out : s.jogHoldOut = (if s.jk.causes.freeze then ({ u with jk := { u.jk with lapsed := true } } : State)
    else u.lapseJog) := rfl
  rw [out]
  cases frozen : s.jk.causes.freeze
  · have off : u.lapseJog.groupOff .jacks := fun c o => State.closeValves_driven u c o
    refine ⟨u.lapseJog, rfl, ?_, ?_, ?_, ?_, ?_, ?_, fun _ => ⟨?_, off, rfl, ?_, ?_⟩, by simp⟩
    all_goals simp only [State.lapseJog, State.haltJacks, State.closeValves_arb, State.closeValves_guard,
      State.closeValves_fe, State.closeValves_sa, State.closeValves_clock, State.closeValves_jk, u]
    rcases st with st | st <;> simp only [st]
  · exact ⟨_, rfl, rfl, rfl, rfl, rfl, rfl, rfl, by simp, fun _ => ⟨rfl, rfl, rfl, rfl⟩⟩

/-- Settles O49: a hold timer that runs out suspends, or marks the lapse of a frozen operation. -/
theorem holdTimerLapses : Obligations.HoldTimerLapses := by
  unfold Obligations.HoldTimerLapses
  intro s d awake others
  refine ⟨fun r w left st => ?_, fun left st => ?_⟩
  · have room : (s.pass d).room r = s.roomAfter d r := State.pass_room s d r
    obtain ⟨u, out, arb, guard, fe, sa, clock, hold, known, endPos, free, frozen⟩ :=
      State.roomHoldOut_spec (s.pass d) r w (by rw [room]; exact st)
    rw [room] at known endPos free frozen
    have row : exec (.holdTimer (.room r)) s = s.ifAwake ((s.pass d).settled ((s.pass d).roomHoldOut r)) := by
      show s.ifAwake (s.expire (s.room r).holdLeft _) = _
      rw [left]; rfl
    rw [out, State.settled_same (s.pass d) u arb] at row
    obtain ⟨l, next, -⟩ := State.awake_next s awake u.restance
    exact ⟨_, row.trans next, ⟨arb, guard, fe, (congrArg StanceAttention.records sa :), clock⟩, hold, known, endPos, free, frozen⟩
  · obtain ⟨u, out, arb, guard, fe, sa, clock, hold, free, frozen⟩ := State.jogHoldOut_spec (s.pass d) st
    have row : exec (.holdTimer .jog) s = s.ifAwake ((s.pass d).settled (s.pass d).jogHoldOut) := by
      show s.ifAwake (s.expire s.jk.holdLeft _) = _
      rw [left]; rfl
    rw [out, State.settled_same (s.pass d) u arb] at row
    obtain ⟨l, next, -⟩ := State.awake_next s awake u.restance
    exact ⟨_, row.trans next, ⟨arb, guard, fe, (congrArg StanceAttention.records sa :), clock⟩, hold, free, frozen⟩

/-! ## Timers that end an operation (R25, R26, R36, R39, R48, R49, R58, R62, R70, R84, R86, R88) -/

/-- The row of a timer after which the operation of `g` has ended: what it leaves once the walk is made. -/
theorem State.timer_ends {v : State} {c : Instr} {g : Group} {reason : Reason} {d : Nat} (r : RoomId)
    (awake : s.power = .awake) (row : exec c s = s.ifAwake ((s.pass d).settled v)) (closed : v.overWith g reason)
    (others : ∀ h, h ≠ g → v.view h = (s.pass d).view h) (nobody : s.arb.waiting = [] → v.arb.waiting = [])
    (still : v.still = (s.pass d).still) (here : ∀ q, g = .room q → q = r) :
    ∃ t, exec c s = .next t ∧ t.endedWith g reason ∧ t.groupOff g
      ∧ (s.arb.waiting = [] → ∀ d, d.owner ≠ g → t.chan d = s.chan d)
      ∧ t.inputs = s.inputs ∧ t.health = s.health ∧ t.wind = s.wind ∧ t.store.active = s.store.active
      ∧ (g ≠ .awning → g ≠ .jacks → t.guard.roomWork.get r = false) ∧ (g = .jacks → t.guard.jackWork = false) := by
  obtain ⟨u, settled⟩ : ∃ u, (s.pass d).settled v = u := ⟨_, rfl⟩
  rw [settled] at row
  have kept : u.still = (s.pass d).still := by rw [← settled, State.still_settled, still]
  have closed' : u.overWith g reason := by rw [← settled]; exact State.settled_over (s.pass d) closed
  obtain ⟨ended, off, free⟩ := closed'
  obtain ⟨l, next, -⟩ := State.awake_next s awake u
  have link : ({ u with link := l } : State).view g = u.view g := State.view_with_link u l
  refine ⟨_, row.trans next, State.endedWith_of_view link rfl ended, State.groupOff_of_view link off, fun w c n => ?_,
    congrArg Still.inputs kept, congrArg Still.health kept, congrArg Still.wind kept,
    (congrArg (fun x : Still => x.store.active) kept :), fun na nj => ?_, ?_⟩
  · have same : u.view c.owner = v.view c.owner := by
      rw [← settled]; exact State.view_settled _ v (State.waits_of_nil v _ (nobody w))
    exact State.chan_of_view (same.trans (others c.owner n)) c rfl
  · cases g with
    | jacks => exact absurd rfl nj
    | awning => exact absurd rfl na
    | room q => rw [← here q rfl]; exact free
  · rintro rfl
    exact free

/-- The row of a timer that ends the group's operation by its plain end. -/
theorem State.timer_endsGroup {c : Instr} {g : Group} {reason : Reason} {d : Nat} (r : RoomId) (awake : s.power = .awake)
    (row : exec c s = s.ifAwake ((s.pass d).ended g reason)) (work : s.working g) (here : ∀ q, g = .room q → q = r) :
    ∃ t, exec c s = .next t ∧ t.endedWith g reason ∧ t.groupOff g
      ∧ (s.arb.waiting = [] → ∀ d, d.owner ≠ g → t.chan d = s.chan d)
      ∧ t.inputs = s.inputs ∧ t.health = s.health ∧ t.wind = s.wind ∧ t.store.active = s.store.active
      ∧ (g ≠ .awning → g ≠ .jacks → t.guard.roomWork.get r = false) ∧ (g = .jacks → t.guard.jackWork = false) :=
  State.timer_ends s r awake row (State.endGroup_over _ reason ((State.pass_working s d).mpr work))
    (fun _ n => State.view_endGroup _ reason n) (fun w => State.endGroup_waiting_nil _ reason w)
    (State.still_endGroup _ g reason) here

/-- The pin timer that runs out is an end of its room, as IN from SETTLING (R58, R65, R78). -/
theorem State.pinFails_eq (r : RoomId) :
    ∃ (z : State) (k : Bool) (p : EndPosition), s.pinFails r = z.finishRoom r .pinFault k p ∧ (z = s ∨ z = s.zeroRoom r) := by
  unfold State.pinFails
  split
  · unfold State.roomArrivesIn
    split
    · exact ⟨_, _, _, rfl, .inr rfl⟩
    · exact ⟨_, _, _, rfl, .inl rfl⟩
  · exact ⟨_, _, _, rfl, .inl rfl⟩

theorem State.still_pinFails (r : RoomId) : (s.pinFails r).still = s.still := by
  obtain ⟨z, k, p, eq, rfl | rfl⟩ := State.pinFails_eq s r <;> simp [eq]

theorem State.pinFails_over (r : RoomId) (work : s.working (.room r)) : (s.pinFails r).overWith (.room r) .pinFault := by
  obtain ⟨z, k, p, eq, rfl | rfl⟩ := State.pinFails_eq s r <;> rw [eq] <;> exact State.finishRoom_over _ r _ _ _ work

theorem State.view_pinFails (r : RoomId) {g : Group} (n : g ≠ .room r) : (s.pinFails r).view g = s.view g := by
  obtain ⟨z, k, p, eq, rfl | rfl⟩ := State.pinFails_eq s r <;> simp [eq, n]

theorem State.finishRoom_waiting_nil (r : RoomId) (reason : Reason) (k : Bool) (p : EndPosition)
    (w : s.arb.waiting = []) : (s.finishRoom r reason k p).arb.waiting = [] := by
  by_cases work : s.working (.room r)
  · obtain ⟨t, eq, -, -, -, -, arb, -⟩ := State.finishRoom_spec s r reason k p work
    rw [eq, arb]
    exact State.dropSupply_waiting_nil s w
  · simp_all [State.working, State.finishRoom]

theorem State.pinFails_waiting_nil (r : RoomId) (w : s.arb.waiting = []) : (s.pinFails r).arb.waiting = [] := by
  obtain ⟨z, k, p, eq, rfl | rfl⟩ := State.pinFails_eq s r <;> rw [eq] <;> exact State.finishRoom_waiting_nil _ r _ _ _ w

/-- Settles O50: each timer and budget ends its operation with its reason. -/
theorem timersEndOperations : Obligations.TimersEndOperations := by
  unfold Obligations.TimersEndOperations
  intro s r d awake ends
  refine ⟨fun left work => ?_, fun left work => ?_, fun left work => ?_, fun st moving pin work => ?_,
    fun driven work => ?_, fun left free work => ?_, fun left free work => ?_, fun left free work => ?_,
    fun left free work => ?_, fun left free work => ?_, fun w st ne work => ?_, fun g st jog driven work => ?_⟩
  · refine State.timer_endsGroup s r awake (d := d) ?_ work (by simp)
    show s.ifAwake (s.expire (s.room r).resumeLeft _) = _
    rw [left]; rfl
  · refine State.timer_endsGroup s r awake (d := d) ?_ work (by simp)
    show s.ifAwake (s.expire s.jk.resumeLeft _) = _
    rw [left]; rfl
  · have row : exec (.pinTimer r) s = s.ifAwake ((s.pass d).settled ((s.pass d).pinFails r)) := by
      show s.ifAwake (s.expire (s.room r).pinLeft _) = _
      rw [left]; rfl
    exact State.timer_ends s r awake row (State.pinFails_over _ r ((State.pass_working s d).mpr work))
      (fun _ n => State.view_pinFails _ r n) (State.pinFails_waiting_nil (s.pass d) r) (State.still_pinFails _ r) (by simp)
  · have drives : s.anyDrive r = true := by
      rw [State.roomStill] at moving
      unfold State.anyDrive
      cases fore : s.driven (.drive r .fore) <;> cases aft : s.driven (.drive r .aft) <;> simp_all
    refine State.timer_endsGroup s r awake (d := (s.room r).budget - (s.room r).runMs) ?_ work (by simp)
    show s.ifAwake (s.expire (untilLimit (s.roomMoving r && s.anyDrive r) _ _) _) = _
    rw [drives, State.roomMoving, st]; rfl
  · refine State.timer_endsGroup s r awake (d := awningBudget - s.aw.runMs) ?_ work (by simp)
    show s.ifAwake (s.expire (untilLimit (s.driven .awning) _ _) _) = _
    rw [driven]; rfl
  · refine State.timer_endsGroup s r awake (d := d) ?_ work (by simp)
    show s.ifAwake (s.expire (boundLeft s.aw.causes.freeze s.aw.waitLeft) _) = _
    rw [left, free]; rfl
  · refine State.timer_endsGroup s r awake (d := d) ?_ work (by simp)
    show s.ifAwake (s.expire (boundLeft s.aw.causes.freeze s.aw.suspLeft) _) = _
    rw [left, free]; rfl
  · refine State.timer_endsGroup s r awake (d := d) ?_ work (by simp)
    show s.ifAwake (s.expire (boundLeft s.jk.causes.freeze s.jk.airLeft) _) = _
    rw [left, free]; rfl
  · refine State.timer_endsGroup s r awake (d := d) ?_ work (by simp)
    show s.ifAwake (s.expire (boundLeft s.jk.causes.freeze s.jk.waitLeft) _) = _
    rw [left, free]; rfl
  · refine State.timer_endsGroup s r awake (d := d) ?_ work (by simp)
    show s.ifAwake (s.expire (boundLeft s.jk.causes.freeze s.jk.suspLeft) _) = _
    rw [left, free]; rfl
  · refine State.timer_endsGroup s r awake (d := w.limit - s.jk.runMs) ?_ work (by simp)
    have left : s.jk.limitLeft = some (w.limit - s.jk.runMs) := by
      unfold Levelling.limitLeft
      rw [st]
      cases w with
      | jogging => exact absurd rfl ne
      | _ => rfl
    show s.ifAwake (s.expire s.jk.limitLeft _) = _
    rw [left]; rfl
  · refine State.timer_endsGroup s r awake (d := jogBudget - g.runMs) ?_ work (by simp)
    have left : s.jogLeft = some (jogBudget - g.runMs) := by
      simp [State.jogLeft, jog, st, driven, untilLimit]
    show s.ifAwake (s.expire s.jogLeft _) = _
    rw [left]; rfl

end Sys2Proof.Machine
end

section
/-!
PROOFS. The settle timer, the step settle and the drift timer read the filtered tilt (O51).
-/

namespace Sys2Proof.Machine

open Sys2Proof

variable (s : State)

theorem State.tiltWithin_iff (band : Int) : s.tiltWithin band = true ↔ |s.fe.pitch| ≤ band ∧ |s.fe.roll| ≤ band := by
  simp [State.tiltWithin, absInt]

theorem State.filterFull_iff : s.filterFull = true ↔ s.fe.ring.length = 16 := by simp [State.filterFull]

/-! ## Driving a pass (R31, R32) -/

theorem State.openTowards_ch (j : JackId) (target : Int) : ∃ ch, s.openTowards j target = { s with ch := ch } := by
  unfold State.openTowards
  repeat' split
  · exact State.openValve_ch s j .first
  · exact State.openValve_ch s j .second
  · exact ⟨s.ch, rfl⟩

theorem State.openStation_ch (t : Station) :
    ∃ ch, s.openStation t = { s with jk := { s.jk with station := some t }, ch := ch } := by
  have fold : ∀ (l : List JackId) (u : State), ∃ ch,
      l.foldl (fun u j => u.openTowards j (u.targetOf j)) u = { u with ch := ch } := by
    intro l
    induction l with
    | nil => exact fun u => ⟨u.ch, rfl⟩
    | cons j l ih =>
      intro u
      obtain ⟨ch, step⟩ := State.openTowards_ch u j (u.targetOf j)
      obtain ⟨ch', rest⟩ := ih (u.openTowards j (u.targetOf j))
      refine ⟨ch', ?_⟩
      rw [List.foldl_cons, rest, step]
  obtain ⟨ch, eq⟩ := fold _ { s with jk := { s.jk with station := some t } }
  exact ⟨ch, eq⟩

/-- The choice of stations keeps the pass and its plan, asks nothing of the arbiter, and goes on driving or settles. -/
theorem State.chooseStation_spec (n : Nat) :
    (s.chooseStation n).jk.passes = s.jk.passes ∧ (s.chooseStation n).jk.plan = s.jk.plan ∧ (s.chooseStation n).arb = s.arb
      ∧ ((s.chooseStation n).jk.st = s.jk.st ∨ (s.chooseStation n).jk.st = .work (.levelling .settle)) := by
  induction n generalizing s with
  | zero => exact ⟨rfl, rfl, rfl, .inr rfl⟩
  | succ n ih =>
    unfold State.chooseStation
    split
    · exact ⟨rfl, rfl, rfl, .inr rfl⟩
    · rename_i t _
      obtain ⟨ch, eq⟩ := State.openStation_ch s t
      dsimp only
      rw [eq]
      split
      · exact ⟨rfl, rfl, rfl, .inl rfl⟩
      · obtain ⟨passes, plan, arb, st⟩ :=
          ih (({ s with jk := { s.jk with station := some t }, ch := ch } : State).markDone t)
        cases t <;> exact ⟨passes, plan, arb, st⟩

/-- A pass after the first is planned and driven (R28, R31). -/
theorem State.startPass_later (k : Nat) (later : k ≠ 1) :
    (s.startPass k).jk.passes = k ∧ (s.startPass k).jk.plan = some (s.computePlan k) ∧ (s.startPass k).arb = s.arb
      ∧ ((s.startPass k).jk.st = .work (.levelling .drive) ∨ (s.startPass k).jk.st = .work (.levelling .settle)) := by
  have first : (k = 1 && !s.jk.steepDone && !s.tiltWithin s.jk.cap.level.steepness) = false := by simp [later]
  unfold State.startPass
  rw [first, if_neg Bool.false_ne_true]
  exact State.chooseStation_spec _ 3

/-! ## The settle timer (R33) -/

/-- The engine as it waits for the next tilt sample at its timer. -/
def State.settleWaiting (s : State) : State := { s with jk := { s.jk with settleLeft := none, tiltWait := true } }

/-- The engine as it reads the tilt at its timer. -/
def State.settleRead (s : State) : State := { s with jk := { s.jk with settleLeft := none, tiltWait := false } }

theorem State.settleOut_full (full : s.filterFull = true) :
    s.settleOut = (if s.tiltWithin s.jk.cap.level.band then s.settleRead.enterLoadCheck
      else if (s.jk.passes : Int) < s.jk.cap.level.maxPasses then s.settleRead.startPass (s.jk.passes + 1)
      else s.settleRead.endJacks .limited) := by
  unfold State.settleOut
  exact if_pos full

theorem State.settleOut_wait (filling : ¬ s.filterFull = true) :
    s.settleOut = s.settleWaiting := by
  unfold State.settleOut
  exact if_neg filling

/-- The engine at the start of LOAD_CHECK, before it looks for a light jack. -/
def State.loadChecking (s : State) : State :=
  { s with jk := { s.jk with st := .work (.levelling .loadCheck), tiltWait := false, step := none } }

/-- With no light jack LOAD_CHECK ends the run at once (R34). -/
theorem State.enterLoadCheck_even (even : ∀ j ∈ s.presentJacks, s.isLight j = false) :
    s.enterLoadCheck = s.loadChecking.endJacks .arrived := by
  have noLight : s.presentJacks.filter s.isLight = [] := by
    rw [List.filter_eq_nil_iff]
    intro j mem
    rw [even j mem]; exact Bool.false_ne_true
  have list : s.enterLoadCheck = s.loadChecking.nextLight (s.presentJacks.filter s.isLight) := rfl
  rw [list, noLight]
  rfl

/-- The end of a levelling run, with its walk and stance: its state and its result record (R38, R41). -/
theorem State.run_ends (b : State) (ph : LevelPhase) (reason : Reason) (work : s.jk.st = .work (.levelling ph)) :
    ∃ u, b.settled (s.endJacks reason) = u ∧ u.overWith .jacks reason
      ∧ u.jk.st = .idle (s.idleAfter (.levelling ph) reason)
      ∧ u.jk.result = some (s.levelResult (levelOutcome reason) (abortReason reason)) := by
  have run : s.jk.st.work? = some (.levelling ph) := by rw [work]; rfl
  have working : s.working .jacks := by rw [State.working, run]; exact Option.some_ne_none _
  have closed := State.endJacks_over s reason working
  obtain ⟨t, eq, jk, -⟩ := State.endJacks_spec s _ reason run
  have same := State.view_settled b (s.endJacks reason) closed.waits
  refine ⟨_, rfl, State.settled_over b closed, ?_, ?_⟩
  · rw [State.jkState_of_view same, eq, jk]; rfl
  · rw [State.jkResult_of_view same, eq, jk]; rfl

/-- The row of a timer of an awake part, up to what the transmit path does: what an end leaves stands. -/
theorem State.ended_next {u : State} {c : Instr} {g : Group} {reason : Reason} (awake : s.power = .awake)
    (row : exec c s = s.ifAwake u) (closed : u.overWith g reason) :
    ∃ l : Link, exec c s = .next { u with link := l } ∧ ({ u with link := l } : State).endedWith g reason
      ∧ ({ u with link := l } : State).groupOff g := by
  obtain ⟨l, next, -⟩ := State.awake_next s awake u
  have link : ({ u with link := l } : State).view g = u.view g := State.view_with_link u l
  obtain ⟨ended, off, -⟩ := closed
  exact ⟨l, row.trans next, State.endedWith_of_view link rfl ended, State.groupOff_of_view link off⟩

theorem State.settle_row {d : Nat} (left : s.jk.settleLeft = some d) :
    exec .settleTimer s = s.ifAwake ((s.pass d).settled (s.pass d).settleOut) := by
  show s.ifAwake (s.expire s.jk.settleLeft _) = _
  rw [left]; rfl

/-- The settle timer with the filter not yet full: the run waits for the next tilt sample. -/
theorem State.settleTimer_waits {d : Nat} (awake : s.power = .awake) (left : s.jk.settleLeft = some d)
    (filling : ¬ s.filterFull = true) :
    ∃ t, exec .settleTimer s = .next t ∧ t.jk.settleLeft = none ∧ t.jk.tiltWait = true ∧ t.jk.st = s.jk.st ∧ t.arb = s.arb
      ∧ t.ch = s.ch := by
  have row := State.settle_row s left
  rw [State.settleOut_wait (s.pass d) filling, State.settled_same (s.pass d) (s.pass d).settleWaiting rfl] at row
  obtain ⟨l, next, -⟩ := State.awake_next s awake (s.pass d).settleWaiting.restance
  exact ⟨_, row.trans next, rfl, rfl, rfl, rfl, rfl⟩

/-- The settle timer within the band, with no light jack: the run ends LEVELLED (R33, R34). -/
theorem State.settleTimer_levelled {d : Nat} (awake : s.power = .awake) (left : s.jk.settleLeft = some d)
    (full : s.filterFull = true) (level : s.tiltWithin s.jk.cap.level.band = true)
    (even : ∀ j ∈ s.presentJacks, s.isLight j = false) :
    ∃ t, exec .settleTimer s = .next t ∧ t.endedWith .jacks .arrived ∧ t.groupOff .jacks ∧ t.jk.st = .idle .levelled
      ∧ ∃ x, t.jk.result = some x ∧ x.outcome = .levelled ∧ x.passes = s.jk.passes ∧ x.pitch = s.fe.pitch
        ∧ x.roll = s.fe.roll := by
  have row := State.settle_row s left
  have out : (s.pass d).settleOut = (s.pass d).settleRead.enterLoadCheck :=
    (State.settleOut_full (s.pass d) full).trans (if_pos level)
  rw [out, State.enterLoadCheck_even (s.pass d).settleRead even] at row
  obtain ⟨u, settled, closed, st, result⟩ := State.run_ends (s.pass d).settleRead.loadChecking (s.pass d) .loadCheck .arrived rfl
  rw [settled] at row
  obtain ⟨l, next, ended, off⟩ := State.ended_next s awake row closed
  exact ⟨_, next, ended, off, st, _, result, rfl, rfl, rfl, rfl⟩

/-- The settle timer outside the band after the last pass: the run ends LIMITED (R33). -/
theorem State.settleTimer_limited {d : Nat} (awake : s.power = .awake) (left : s.jk.settleLeft = some d)
    (st : s.jk.st = .work (.levelling .settle)) (full : s.filterFull = true)
    (tilted : ¬ s.tiltWithin s.jk.cap.level.band = true) (last : s.jk.cap.level.maxPasses ≤ s.jk.passes) :
    ∃ t, exec .settleTimer s = .next t ∧ t.endedWith .jacks .limited ∧ t.groupOff .jacks ∧ t.jk.st = .idle .down
      ∧ ∃ x, t.jk.result = some x ∧ x.outcome = .limited ∧ x.abort = none := by
  have row := State.settle_row s left
  have out : (s.pass d).settleOut = (s.pass d).settleRead.endJacks .limited :=
    (State.settleOut_full (s.pass d) full).trans ((if_neg tilted).trans (if_neg (not_lt.mpr last)))
  obtain ⟨u, settled, closed, state, result⟩ := State.run_ends (s.pass d).settleRead (s.pass d) .settle .limited st
  rw [out, settled] at row
  obtain ⟨l, next, ended, off⟩ := State.ended_next s awake row closed
  exact ⟨_, next, ended, off, state, _, result, rfl, rfl⟩

/-- The settle timer outside the band with a pass left: the next pass is planned (R28, R33). -/
theorem State.settleTimer_nextPass {d : Nat} (awake : s.power = .awake) (left : s.jk.settleLeft = some d)
    (full : s.filterFull = true) (tilted : ¬ s.tiltWithin s.jk.cap.level.band = true)
    (more : (s.jk.passes : Int) < s.jk.cap.level.maxPasses) (begun : 1 ≤ s.jk.passes) :
    ∃ t, exec .settleTimer s = .next t ∧ t.jk.passes = s.jk.passes + 1
      ∧ t.jk.plan = some (s.computePlan (s.jk.passes + 1)) ∧ t.arb = s.arb
      ∧ (t.jk.st = .work (.levelling .drive) ∨ t.jk.st = .work (.levelling .settle)) := by
  have row := State.settle_row s left
  have out : (s.pass d).settleOut = (s.pass d).settleRead.startPass (s.jk.passes + 1) :=
    (State.settleOut_full (s.pass d) full).trans ((if_neg tilted).trans (if_pos more))
  obtain ⟨passes, plan, arb, st⟩ := State.startPass_later (s.pass d).settleRead (s.jk.passes + 1) (by omega)
  rw [out, State.settled_same (s.pass d) ((s.pass d).settleRead.startPass (s.jk.passes + 1)) arb] at row
  obtain ⟨l, next, -⟩ := State.awake_next s awake ((s.pass d).settleRead.startPass (s.jk.passes + 1)).restance
  exact ⟨_, row.trans next, passes, plan, arb, st⟩

/-! ## The step settle (R35) -/

/-- The engine as it waits for the next tilt sample at a step settle. -/
def State.stepWaiting (s : State) : State := { s with jk := { s.jk with stepLeft := none, tiltWait := true } }

/-- The engine as it reads the tilt at a step settle. -/
def State.stepRead (s : State) : State := { s with jk := { s.jk with stepLeft := none, tiltWait := false } }

/-- The step settle out: the step is judged on a full filter, and waits on another. -/
theorem State.stepOut_step (p : LightStep) (step : s.jk.step = some p) :
    s.stepOut = (if s.filterFull then ({ s with jk := { s.jk with stepLeft := none } } : State).judgeStep p
      else s.stepWaiting) := by
  unfold State.stepOut
  dsimp only
  split
  · next q found =>
      obtain rfl : p = q := Option.some.inj (step.symm.trans found)
      rfl
  · next found => exact absurd (step.symm.trans found) (Option.some_ne_none p)

theorem State.stepOut_full (p : LightStep) (step : s.jk.step = some p) (full : s.filterFull = true) :
    s.stepOut = (if !s.tiltWithin s.jk.cap.level.band then
        ({ s.stepRead with jk := { s.stepRead.jk with step := some { p with mode := .retracting } } } : State).openValve p.jack
          .second
      else if !s.isLight p.jack then s.stepRead.finishStepping p.jack
      else if 5 ≤ p.made then s.stepRead.finishStepping p.jack
      else if s.stepFits p.jack then s.stepRead.startStep p.jack p.made
      else s.stepRead.finishStepping p.jack) := by
  rw [State.stepOut_step s p step, if_pos full]
  rfl

theorem State.stepOut_wait (p : LightStep) (step : s.jk.step = some p) (filling : ¬ s.filterFull = true) :
    s.stepOut = s.stepWaiting := by
  rw [State.stepOut_step s p step, if_neg filling]

theorem State.step_row {d : Nat} (left : s.jk.stepLeft = some d) :
    exec .stepSettle s = s.ifAwake ((s.pass d).settled (s.pass d).stepOut) := by
  show s.ifAwake (s.expire s.jk.stepLeft _) = _
  rw [left]; rfl

/-- A row after which the engine has opened one valve: the valve and the pump are driven, the rest is as it was. -/
theorem State.opened_next {b u : State} {c : Instr} (j : JackId) (dir : ChanDir) (awake : s.power = .awake)
    (row : exec c s = s.ifAwake (b.settled (u.openValve j dir))) (arb : u.arb = b.arb) :
    ∃ t, exec c s = .next t ∧ t.arb = b.arb ∧ t.jk = u.jk ∧ (t.chan (.valve j)).mode = .driven dir 100
      ∧ t.driven .pump = true := by
  obtain ⟨valve, pump, -⟩ := State.openValve_spec u j dir
  rw [State.settled_same b _ (by rw [State.openValve_arb, arb])] at row
  obtain ⟨l, next, -⟩ := State.awake_next s awake (u.openValve j dir).restance
  exact ⟨_, row.trans next, (State.openValve_arb u j dir).trans arb, State.openValve_jk u j dir, valve, pump⟩

/-- A step settle with the filter not yet full waits for the next tilt sample. -/
theorem State.stepSettle_waits {d : Nat} {p : LightStep} (awake : s.power = .awake) (left : s.jk.stepLeft = some d)
    (step : s.jk.step = some p) (filling : ¬ s.filterFull = true) :
    ∃ t, exec .stepSettle s = .next t ∧ t.arb = s.arb ∧ t.jk.tiltWait = true ∧ t.jk.stepLeft = none ∧ t.jk.step = some p
      ∧ t.ch = s.ch := by
  have row := State.step_row s left
  rw [State.stepOut_wait (s.pass d) p step filling, State.settled_same (s.pass d) (s.pass d).stepWaiting rfl] at row
  obtain ⟨l, next, -⟩ := State.awake_next s awake (s.pass d).stepWaiting.restance
  exact ⟨_, row.trans next, rfl, rfl, rfl, step, rfl⟩

/-- A step that has tilted the coach is taken back (R35). -/
theorem State.stepSettle_retracts {d : Nat} {p : LightStep} (awake : s.power = .awake) (left : s.jk.stepLeft = some d)
    (step : s.jk.step = some p) (full : s.filterFull = true) (tilted : s.tiltWithin s.jk.cap.level.band = false) :
    ∃ t, exec .stepSettle s = .next t ∧ t.arb = s.arb ∧ t.jk.stepLeft = none
      ∧ t.jk.step = some { p with mode := .retracting } ∧ (t.chan (.valve p.jack)).mode = .driven .second 100
      ∧ t.driven .pump = true := by
  have row := State.step_row s left
  have out := (State.stepOut_full (s.pass d) p step full).trans
    (if_pos (show (!s.tiltWithin s.jk.cap.level.band) = true by rw [tilted]; rfl))
  rw [out] at row
  obtain ⟨t, next, arb, jk, valve, pump⟩ := State.opened_next s p.jack .second awake row rfl
  exact ⟨t, next, arb, by rw [jk]; rfl, by rw [jk], valve, pump⟩

/-- A jack still light is stepped again while the step fits (R35). -/
theorem State.stepSettle_again {d : Nat} {p : LightStep} (awake : s.power = .awake) (left : s.jk.stepLeft = some d)
    (step : s.jk.step = some p) (full : s.filterFull = true) (level : s.tiltWithin s.jk.cap.level.band = true)
    (light : s.isLight p.jack = true) (few : p.made < 5) (fits : s.stepFits p.jack = true) :
    ∃ t, exec .stepSettle s = .next t
      ∧ t.jk.step = some { jack := p.jack, made := p.made, start := s.strokeD p.jack, mode := .lifting }
      ∧ (t.chan (.valve p.jack)).mode = .driven .first 100 ∧ t.driven .pump = true ∧ t.arb = s.arb := by
  have row := State.step_row s left
  have out : (s.pass d).stepOut = (s.pass d).stepRead.startStep p.jack p.made := by
    refine (State.stepOut_full (s.pass d) p step full).trans ((if_neg ?_).trans ((if_neg ?_).trans ((if_neg ?_).trans
      (if_pos fits))))
    · rw [show (s.pass d).tiltWithin (s.pass d).jk.cap.level.band = true from level]; exact Bool.false_ne_true
    · rw [show (s.pass d).isLight p.jack = true from light]; exact Bool.false_ne_true
    · omega
  rw [out] at row
  obtain ⟨t, next, arb, jk, valve, pump⟩ := State.opened_next s p.jack .first awake row rfl
  exact ⟨t, next, by rw [jk]; rfl, valve, pump, arb⟩

/-! ## The drift timer (R44) -/

/-- The engine after a drift check. -/
def State.driftRead (s : State) : State := { s with jk := { s.jk with driftLeft := none, driftWait := false } }

theorem State.driftOut_full (full : s.filterFull = true) (st : s.jk.st = .idle .levelled) :
    s.driftOut = (if s.tiltWithin (2 * s.jk.cap.level.band) then s.driftRead
      else ({ s.driftRead with jk := { s.driftRead.jk with st := .idle .drifted } } : State).joinGroup .jacks) := by
  have out : s.driftOut = ({ s with jk := { s.jk with driftLeft := none } } : State).driftCheck := by
    unfold State.driftOut
    exact if_pos full
  rw [out]
  unfold State.driftCheck
  dsimp only
  split
  · next level => exact (if_pos level).symm
  · next tilted =>
      refine Eq.trans ?_ (if_neg tilted).symm
      split
      · rfl
      · next found => rw [st] at found; cases found
      · next other _ => exact absurd st other

theorem State.driftOut_wait (filling : ¬ s.filterFull = true) :
    s.driftOut = { s with jk := { s.jk with driftLeft := none, driftWait := true } } := by
  unfold State.driftOut
  exact if_neg filling

/-- The drift timer, with what it reads: the wait, the band kept, and the drift. -/
theorem State.driftTimer_spec {d : Nat} (awake : s.power = .awake) (left : s.jk.driftLeft = some d)
    (st : s.jk.st = .idle .levelled) :
    ∃ t, exec .driftTimer s = .next t ∧ t.jk.driftLeft = none ∧ t.arb = s.arb ∧ t.ch = s.ch ∧ t.sa.records = s.sa.records
      ∧ t.jk.result = s.jk.result
      ∧ (¬ s.filterFull = true → t.jk.driftWait = true ∧ t.jk.st = .idle .levelled)
      ∧ (s.filterFull = true → s.tiltWithin (2 * s.jk.cap.level.band) = true →
          t.jk.driftWait = false ∧ t.jk.st = .idle .levelled)
      ∧ (s.filterFull = true → ¬ s.tiltWithin (2 * s.jk.cap.level.band) = true →
          t.jk.st = .idle .drifted ∧ t.sa.groups.jacks = true) := by
  have row : exec .driftTimer s = s.ifAwake (s.pass d).driftOut.restance := by
    show s.ifAwake (s.expire s.jk.driftLeft _) = _
    rw [left]; rfl
  by_cases full : s.filterFull = true
  · by_cases level : s.tiltWithin (2 * s.jk.cap.level.band) = true
    · rw [(State.driftOut_full (s.pass d) full st).trans (if_pos level)] at row
      obtain ⟨l, next, -⟩ := State.awake_next s awake (s.pass d).driftRead.restance
      exact ⟨_, row.trans next, rfl, rfl, rfl, rfl, rfl, fun n => absurd full n, fun _ _ => ⟨rfl, st⟩,
        fun _ n => absurd level n⟩
    · obtain ⟨sa, b, eq, records, joined⟩ := State.joinGroup_spec
        ({ (s.pass d).driftRead with jk := { (s.pass d).driftRead.jk with st := .idle .drifted } } : State) .jacks
      rw [(State.driftOut_full (s.pass d) full st).trans (if_neg level), eq] at row
      obtain ⟨l, next, -⟩ := State.awake_next s awake (State.restance _)
      exact ⟨_, row.trans next, rfl, rfl, rfl, records, rfl, fun n => absurd full n, fun _ k => absurd k level,
        fun _ _ => ⟨rfl, joined rfl⟩⟩
  · rw [State.driftOut_wait (s.pass d) full] at row
    obtain ⟨l, next, -⟩ := State.awake_next s awake (State.restance _)
    exact ⟨_, row.trans next, rfl, rfl, rfl, rfl, rfl, fun _ => ⟨rfl, st⟩, fun k => absurd k full, fun k => absurd k full⟩

/-! ## The three timers -/

/-- The settle timer, by the filter, the band and the passes made (R33). -/
theorem State.settleTimer_spec {d : Nat} (awake : s.power = .awake) (left : s.jk.settleLeft = some d)
    (st : s.jk.st = .work (.levelling .settle)) :
    ∃ t, exec .settleTimer s = .next t
      ∧ (¬ s.filterFull = true → t.jk.settleLeft = none ∧ t.jk.tiltWait = true ∧ t.jk.st = s.jk.st ∧ t.arb = s.arb
          ∧ t.ch = s.ch)
      ∧ (s.filterFull = true → s.tiltWithin s.jk.cap.level.band = true → (∀ j ∈ s.presentJacks, s.isLight j = false) →
          t.endedWith .jacks .arrived ∧ t.groupOff .jacks ∧ t.jk.st = .idle .levelled
            ∧ ∃ x, t.jk.result = some x ∧ x.outcome = .levelled ∧ x.passes = s.jk.passes ∧ x.pitch = s.fe.pitch
              ∧ x.roll = s.fe.roll)
      ∧ (s.filterFull = true → ¬ s.tiltWithin s.jk.cap.level.band = true → s.jk.cap.level.maxPasses ≤ s.jk.passes →
          t.endedWith .jacks .limited ∧ t.groupOff .jacks ∧ t.jk.st = .idle .down
            ∧ ∃ x, t.jk.result = some x ∧ x.outcome = .limited ∧ x.abort = none)
      ∧ (s.filterFull = true → ¬ s.tiltWithin s.jk.cap.level.band = true →
          (s.jk.passes : Int) < s.jk.cap.level.maxPasses → 1 ≤ s.jk.passes →
          t.jk.passes = s.jk.passes + 1 ∧ t.jk.plan = some (s.computePlan (s.jk.passes + 1)) ∧ t.arb = s.arb
            ∧ (t.jk.st = .work (.levelling .drive) ∨ t.jk.st = .work (.levelling .settle))) := by
  by_cases full : s.filterFull = true
  · by_cases level : s.tiltWithin s.jk.cap.level.band = true
    · by_cases even : ∀ j ∈ s.presentJacks, s.isLight j = false
      · obtain ⟨t, next, ended⟩ := State.settleTimer_levelled s awake left full level even
        exact ⟨t, next, fun n => absurd full n, fun _ _ _ => ended, fun _ n => absurd level n, fun _ n => absurd level n⟩
      · obtain ⟨l, next, -⟩ := State.awake_next s awake ((s.pass d).settled (s.pass d).settleOut)
        exact ⟨_, (State.settle_row s left).trans next, fun n => absurd full n, fun _ _ n => absurd n even,
          fun _ n => absurd level n, fun _ n => absurd level n⟩
    · by_cases last : s.jk.cap.level.maxPasses ≤ s.jk.passes
      · obtain ⟨t, next, ended⟩ := State.settleTimer_limited s awake left st full level last
        exact ⟨t, next, fun n => absurd full n, fun _ k => absurd k level, fun _ _ _ => ended,
          fun _ _ n => absurd last (not_le.mpr n)⟩
      · by_cases begun : 1 ≤ s.jk.passes
        · obtain ⟨t, next, planned⟩ := State.settleTimer_nextPass s awake left full level (not_le.mp last) begun
          exact ⟨t, next, fun n => absurd full n, fun _ k => absurd k level, fun _ _ n => absurd n last,
            fun _ _ _ _ => planned⟩
        · obtain ⟨l, next, -⟩ := State.awake_next s awake ((s.pass d).settled (s.pass d).settleOut)
          exact ⟨_, (State.settle_row s left).trans next, fun n => absurd full n, fun _ k => absurd k level,
            fun _ _ n => absurd n last, fun _ _ _ n => absurd n begun⟩
  · obtain ⟨t, next, waits⟩ := State.settleTimer_waits s awake left full
    exact ⟨t, next, fun _ => waits, fun k => absurd k full, fun k => absurd k full, fun k => absurd k full⟩

/-- The step settle, by the filter, the band and the step (R35). -/
theorem State.stepSettle_spec {d : Nat} (p : LightStep) (awake : s.power = .awake) (left : s.jk.stepLeft = some d)
    (step : s.jk.step = some p) :
    ∃ t, exec .stepSettle s = .next t
      ∧ (¬ s.filterFull = true → t.arb = s.arb ∧ t.jk.tiltWait = true ∧ t.jk.stepLeft = none ∧ t.jk.step = some p
          ∧ t.ch = s.ch)
      ∧ (s.filterFull = true → ¬ s.tiltWithin s.jk.cap.level.band = true → t.arb = s.arb ∧ t.jk.stepLeft = none
          ∧ t.jk.step = some { p with mode := .retracting }
          ∧ (t.chan (.valve p.jack)).mode = .driven .second 100 ∧ t.driven .pump = true)
      ∧ (s.filterFull = true → s.tiltWithin s.jk.cap.level.band = true → s.isLight p.jack = true → p.made < 5 →
          s.stepFits p.jack = true →
          t.jk.step = some { jack := p.jack, made := p.made, start := s.strokeD p.jack, mode := .lifting }
            ∧ (t.chan (.valve p.jack)).mode = .driven .first 100 ∧ t.driven .pump = true ∧ t.arb = s.arb) := by
  by_cases full : s.filterFull = true
  · by_cases level : s.tiltWithin s.jk.cap.level.band = true
    · by_cases again : s.isLight p.jack = true ∧ p.made < 5 ∧ s.stepFits p.jack = true
      · obtain ⟨light, few, fits⟩ := again
        obtain ⟨t, next, stepped⟩ := State.stepSettle_again s awake left step full level light few fits
        exact ⟨t, next, fun n => absurd full n, fun _ n => absurd level n, fun _ _ _ _ _ => stepped⟩
      · obtain ⟨l, next, -⟩ := State.awake_next s awake ((s.pass d).settled (s.pass d).stepOut)
        exact ⟨_, (State.step_row s left).trans next, fun n => absurd full n, fun _ n => absurd level n,
          fun _ _ light few fits => absurd ⟨light, few, fits⟩ again⟩
    · obtain ⟨t, next, taken⟩ := State.stepSettle_retracts s awake left step full (eq_false_of_ne_true level)
      exact ⟨t, next, fun n => absurd full n, fun _ _ => taken, fun _ k => absurd k level⟩
  · obtain ⟨t, next, waits⟩ := State.stepSettle_waits s awake left step full
    exact ⟨t, next, fun _ => waits, fun k => absurd k full, fun k => absurd k full⟩

/-- Settles O51: each of the three timers by the filter, the band and its own counts. -/
theorem tiltReadAtTheTimer : Obligations.TiltReadAtTheTimer := by
  intro s d awake
  simp only [← State.filterFull_iff, ← State.tiltWithin_iff]
  exact ⟨fun left st => s.settleTimer_spec awake left st, fun p left _ step => s.stepSettle_spec p awake left step,
    fun left st => s.driftTimer_spec awake left st⟩

end Sys2Proof.Machine
end

section
/-!
PROOFS. A chassis input that takes a permit away (O42): the ends it calls for, and the stow that a drive-away makes due.
-/

namespace Sys2Proof.Machine

open Sys2Proof

variable {g : Group} (s : State)

/-! ## Rows of a chassis input -/

/-- The row of a change that happens on an awake part: it is delivered, and where the delivery keeps what motion cannot
touch, only the inputs change there. -/
theorem State.change_next (awake : s.power = .awake) (happens : Bool) (i : Inputs) (deliver : State → State)
    (change : happens = true) :
    ∃ l : Link, s.ifOn (s.changeInput happens i deliver) = .next { deliver (s.setInputs i) with link := l }
      ∧ ((deliver (s.setInputs i)).still = (s.setInputs i).still →
          { ({ deliver (s.setInputs i) with link := l } : State).framed with inputs := s.inputs } = s.framed) := by
  obtain ⟨l, kick, -⟩ := State.kick_link (deliver (s.setInputs i))
  refine ⟨l, ?_, fun still => ?_⟩
  · rw [State.ifOn_on s _ (by simp [awake]), State.changeInput, if_pos change, if_pos awake, kick]
  · rw [← kick, State.kick_framed, State.framed_of_still still]
    rfl

theorem InputLine.changes_of {l : InputLine} {b : Bool} (level : l.level = !b) (run : 5 ≤ l.run) : l.changes b = true := by
  cases b <;> simp [InputLine.changes, level, run]

/-! ## The stow that a drive-away makes due (R93, R94) is the awning's business -/

section
variable (n : g ≠ .awning)
include n

theorem State.view_requestStow (draw : Nat) (free : s.holds g = false) : (s.requestStow draw).view g = s.view g := by
  have same := State.view_suspendUntil s draw s.arb.grants.length free
  have holds : (s.requestStow draw).holds g = (s.suspendUntil draw s.arb.grants.length).holds g := by
    simp [State.requestStow, State.holds, n.symm]
  have other : (s.requestStow draw).view g = (s.suspendUntil draw s.arb.grants.length).view g := by
    simp only [State.view, holds]
    cases g <;> rfl
  rw [other, same]

theorem State.view_beginStow (c : StowCause) (holds : s.holds g = false) (waits : s.waits g = false) :
    (s.beginStow c).view g = s.view g := by
  unfold State.beginStow
  dsimp only
  generalize begun : (s.clearPeaks .awning).modAw _ = u
  have before : u.view g = s.view g := by rw [← begun, State.view_modAw _ _ n, State.view_clearPeaks _ n]
  have after : (u.requestStow u.aw.cap.draw).enterStowing.view g = s.view g := by
    rw [State.view_enterStowing _ n, State.view_requestStow u n _ (by rw [State.holds_of_view before, holds]), before]
  rw [State.view_settled _ _ (by rw [State.waits_of_view after, waits]), after]

theorem State.view_pendStow (c : StowCause) : (s.pendStow c).view g = s.view g := by
  unfold State.pendStow
  split
  · rfl
  · exact State.view_setPending s n _

theorem State.view_stowIdle (c : StowCause) (holds : s.holds g = false) (waits : s.waits g = false) :
    (s.stowIdle c).view g = s.view g := by
  unfold State.stowIdle
  split
  · exact State.view_pendStow s n c
  · split
    · exact State.view_beginStow s n c holds waits
    · split
      · exact State.view_pendStow s n c
      · rfl

theorem State.view_settled_endAwning (b : State) (reason : Reason) (waits : s.waits g = false) :
    (b.settled (s.endAwning reason)).view g = s.view g := by
  have same := State.view_endAwning s n reason
  rw [State.view_settled _ _ (by rw [State.waits_of_view same, waits]), same]

theorem State.view_stowDue (c : StowCause) (holds : s.holds g = false) (waits : s.waits g = false) :
    (s.stowDue c).view g = s.view g := by
  unfold State.stowDue
  split
  · cases c
    · exact State.view_modAw s _ n
    · rfl
  · split
    · have same := State.view_settled_endAwning s n s c.endReason waits
      rw [State.view_stowIdle _ n c (by rw [State.holds_of_view same, holds]) (by rw [State.waits_of_view same, waits]), same]
    · split
      · exact State.view_pendStow s n c
      · exact State.view_stowIdle s n c holds waits

theorem State.view_driveAway (holds : s.holds g = false) (waits : s.waits g = false) : s.driveAway.view g = s.view g := by
  unfold State.driveAway
  split
  · exact State.view_stowDue s n _ holds waits
  · rfl

theorem State.view_keyEndsStow (waits : s.waits g = false) : s.keyEndsStow.view g = s.view g := by
  unfold State.keyEndsStow
  split
  · rw [State.view_setPending _ n, State.view_settled_endAwning s n s _ waits]
  · rfl

end

/-! ## What a drive-away does to the awning itself -/

/-- No stow is due twice (R93). -/
theorem State.driveAway_stowing (stow : s.aw.stowing = true) : s.driveAway = s := by
  have due : s.stowDue .driveAway = s := by
    unfold State.stowDue
    exact if_pos stow
  unfold State.driveAway
  rw [due, ite_self]

/-- The awning's record is the one given, and it is not driven outward. -/
def State.awningHeld (s : State) (e : Option StopRecord) : Prop := s.sa.records.awning = e ∧ s.drivenOut .awning = false

theorem State.awningHeld_of_view {t : State} {e : Option StopRecord} (same : t.view .awning = s.view .awning)
    (held : s.awningHeld e) : t.awningHeld e := by
  obtain ⟨record, inward⟩ := held
  exact ⟨(State.record_of_view same).trans record, by
    rw [State.drivenOut, State.chan_of_view same .awning rfl]; exact inward⟩

theorem State.pendStow_held {e : Option StopRecord} (c : StowCause) (held : s.awningHeld e) : (s.pendStow c).awningHeld e := by
  unfold State.pendStow
  split <;> exact held

/-- The stow itself retracts (R94). -/
theorem State.enterStowing_held {e : Option StopRecord} (out : s.stowed = false) (record : s.sa.records.awning = e) :
    s.enterStowing.awningHeld e ∧ s.enterStowing.arb = s.arb := by
  let u := s.modAw fun a => { a with st := .work .stowing }
  have eq : s.enterStowing = (u.drive .awning .second 100).modAw fun a => { a with endPos := .unknown } :=
    if_neg (by rw [show u.stowed = false from out]; exact Bool.false_ne_true)
  have inward : (u.drive .awning .second 100).drivenOut .awning = false := by
    simp [State.drivenOut, State.drive_chan_same, Channel.drivenDir, Channel.commanded_mode]
  rw [eq]
  exact ⟨⟨record, inward⟩, rfl⟩

theorem State.beginStow_held {e : Option StopRecord} (c : StowCause) (out : s.stowed = false) (holds : s.holds .awning = false)
    (waits : s.waits .awning = false) (record : s.sa.records.awning = e) : (s.beginStow c).awningHeld e := by
  unfold State.beginStow
  dsimp only
  generalize begun : (s.clearPeaks .awning).modAw _ = u
  have free : u.holds .awning = false := by rw [← begun]; exact holds
  obtain ⟨v, room⟩ : ∃ v, u.suspendUntil u.aw.cap.draw u.arb.grants.length = v := ⟨_, rfl⟩
  have same : v.view .awning = u.view .awning := by rw [← room]; exact State.view_suspendUntil u _ _ free
  have away : (u.requestStow u.aw.cap.draw).stowed = false := by
    rw [State.stowed_of_still (State.still_requestStow u _), ← begun]; exact out
  have kept : (u.requestStow u.aw.cap.draw).sa.records.awning = e := by
    have records : v.sa.records.awning = u.sa.records.awning := State.record_of_view same
    rw [State.requestStow, room, ← record]
    exact records.trans (by rw [← begun]; rfl)
  obtain ⟨held, arb⟩ := State.enterStowing_held _ away kept
  have still : (u.requestStow u.aw.cap.draw).enterStowing.waits .awning = false := by
    rw [State.waits, arb, State.requestStow, room]
    exact (State.waits_of_view same).trans (by rw [← begun]; exact waits)
  exact State.awningHeld_of_view _ (State.view_settled _ _ still) held

/-- A drive-away stow that finds no operation adds no record, and drives the awning inward at most (R93, R94). -/
theorem State.driveAway_idle {e : Option StopRecord} (idle : s.aw.st = .idle) (holds : s.holds .awning = false)
    (waits : s.waits .awning = false) (held : s.awningHeld e) : s.driveAway.awningHeld e := by
  have due : s.stowDue .driveAway = s.stowIdle .driveAway := by
    simp [State.stowDue, Awning.stowing, Awning.moving, idle, AwningState.work?]
  unfold State.driveAway
  split
  · next away =>
      obtain ⟨-, out⟩ := Bool.and_eq_true_iff.mp away
      rw [due, State.stowIdle]
      split
      · exact State.pendStow_held s _ held
      · split
        · exact State.beginStow_held s _ (by simpa using out) holds waits held.1
        · split
          · exact State.pendStow_held s _ held
          · exact held
  · exact held

/-! ## The ends of the awning with its record (R87, R161) -/

/-- The end of an awning operation names its request, and leaves the awning idle with its channel off. -/
def State.awningClosed (s : State) (op : Operation) (reason : Reason) : Prop :=
  s.aw.st = .idle ∧ s.holds .awning = false ∧ s.waits .awning = false
    ∧ ∃ e, s.awningHeld (some e) ∧ e.reason = reason ∧ e.op = op

theorem State.awningClosed_of_view {t : State} {op : Operation} {reason : Reason} (same : t.view .awning = s.view .awning)
    (closed : s.awningClosed op reason) : t.awningClosed op reason := by
  obtain ⟨idle, holds, waits, e, held, names⟩ := closed
  exact ⟨by rw [State.aw_of_view same, idle], by rw [State.holds_of_view same, holds],
    by rw [State.waits_of_view same, waits], e, State.awningHeld_of_view s same held, names⟩

theorem State.endAwning_closed (reason : Reason) (work : s.working .awning) :
    (s.endAwning reason).awningClosed s.aw.op.operation reason := by
  obtain ⟨t, eq, aw, holds, waits, -, chan, -, -, -, -, -, records, -⟩ :=
    State.finishAwning_spec s reason s.aw.known s.aw.endPos work
  rw [State.endAwning, eq]
  refine ⟨by rw [aw]; rfl, holds, waits, _, ⟨by rw [records]; rfl, ?_⟩, rfl, rfl⟩
  simp [State.drivenOut, chan, Channel.drivenDir, Channel.turnedOff]

/-- The end with the walk it owes. -/
theorem State.settled_closed {t : State} {op : Operation} {reason : Reason} (closed : t.awningClosed op reason) :
    (s.settled t).awningClosed op reason := by
  obtain ⟨-, -, waits, -⟩ := id closed
  exact State.awningClosed_of_view t (State.view_settled s t waits) closed

/-- An awning among the groups of a list that moves ends with its record. -/
theorem State.endMoves_closed (reason : Reason) (gs : List Group) (nodup : gs.Nodup) (mem : .awning ∈ gs)
    (moves : s.aw.moving = true) : (s.endMoves gs reason).awningClosed s.aw.op.operation reason := by
  obtain ⟨u, before, -, turn⟩ := State.endEach_turn s reason gs nodup mem
  have aw := State.aw_of_view before
  have moves' : u.aw.moving = true := by rw [aw, moves]
  have ends : u.endMove .awning reason = u.endAwning reason := State.endMove_moving u reason fun _ => moves'
  have closed := State.endAwning_closed u reason ((Awning.moving_iff _).mp moves').1
  rw [ends] at turn
  rw [aw] at closed
  exact State.settled_closed s (State.awningClosed_of_view _ turn closed)

/-- What follows an end by a drive-away keeps the record of the end (R93). -/
theorem State.driveAway_closed {op : Operation} {reason : Reason} (closed : s.awningClosed op reason) :
    s.driveAway.drivenOut .awning = false ∧ ∃ e, s.driveAway.sa.records.awning = some e ∧ e.reason = reason ∧ e.op = op := by
  obtain ⟨idle, holds, waits, e, held, names⟩ := closed
  obtain ⟨record, inward⟩ := State.driveAway_idle s idle holds waits held
  exact ⟨inward, e, record, names⟩

/-! ## The park brake (R93, R119) -/

theorem State.brakeGroups_nodup : s.brakeGroups.Nodup := (State.presentGroups_nodup s).filter _

theorem State.mem_brakeGroups : g ∈ s.brakeGroups ↔ s.straps.hasGroup g = true
    ∧ (g ≠ .awning ∨ s.awningExtending = true ∨ s.drivenOut .awning = true) := by
  simp [State.brakeGroups, State.mem_presentGroups, or_assoc]

theorem State.brakeLost_over (n : g ≠ .awning) (present : s.straps.hasGroup g = true) (work : s.working g) :
    s.brakeLost.overWith g .interlock := by
  have closed := State.endMoves_over s .interlock s.brakeGroups (State.brakeGroups_nodup s)
    ((State.mem_brakeGroups s).mpr ⟨present, .inl n⟩) work fun e => absurd e n
  exact State.overWith_of_view (State.view_driveAway _ n closed.holds closed.waits)
    (State.straps_of_still (State.still_driveAway _)) closed

theorem State.brakeLost_awning (present : s.straps.awning = true) (moves : s.aw.moving = true)
    (outward : s.aw.extend = true ∨ s.drivenOut .awning = true) :
    s.brakeLost.drivenOut .awning = false
      ∧ ∃ e, s.brakeLost.sa.records.awning = some e ∧ e.reason = .interlock ∧ e.op = s.aw.op.operation := by
  refine State.driveAway_closed _ (State.endMoves_closed s .interlock s.brakeGroups (State.brakeGroups_nodup s) ?_ moves)
  refine (State.mem_brakeGroups s).mpr ⟨present, .inr (outward.imp_left fun extend => ?_)⟩
  rw [State.awningExtending, moves, extend]; rfl

theorem Awning.moving_of_stowing {a : Awning} (stow : a.stowing = true) : a.moving = false := by
  rw [← Bool.not_eq_true, Awning.moving_iff, stow]
  simp

theorem State.brakeLost_stowing (stow : s.aw.stowing = true) (waits : s.waits .awning = false) : s.brakeLost.aw = s.aw := by
  have same := State.aw_of_view (State.view_endMoves s .interlock s.brakeGroups (g := .awning)
    (fun _ => ⟨rfl, Awning.moving_of_stowing stow⟩) waits)
  rw [State.brakeLost, State.driveAway_stowing _ (by rw [same, stow]), same]

/-! ## Ignition (R93, R119) -/

theorem PerRoom.eq_of_get {α : Type} {p q : PerRoom α} (same : ∀ r, p.get r = q.get r) : p = q := by
  obtain ⟨a, b, c, d⟩ := p
  obtain rfl : a = q.room0 := same .room0
  obtain rfl : b = q.room1 := same .room1
  obtain rfl : c = q.room2 := same .room2
  obtain rfl : d = q.room3 := same .room3
  rfl

theorem State.ignitionLost_idle (rest : ¬ s.working .jacks) : s.endMoves [.jacks] .interlock = s.restance := by
  have same : s.endEach .interlock [.jacks] = s := State.endGroup_idle s (g := .jacks) .interlock rest
  rw [State.endMoves_eq, same, State.settled_same s s rfl]

/-- The rooms and the awning are no matter of the ignition off, while nobody waits for the jacks' grant (R112). -/
theorem State.ignitionLost_others (nobody : s.arb.waiting = []) (n : g ≠ .jacks) :
    (s.endMoves [.jacks] .interlock).view g = s.view g :=
  State.view_endMoves s .interlock _ (by simp [n]) (State.waits_of_nil s g nobody)

theorem State.ignitionGained_extending (extends' : s.awningExtending = true) :
    ∃ e, s.ignitionGained.sa.records.awning = some e ∧ e.reason = .interlock ∧ e.op = s.aw.op.operation := by
  let u : State := { s with link := { s.link with ignitionSeen := true } }
  have moves : u.aw.moving = true := (Bool.and_eq_true_iff.mp extends').1
  have closed := State.endAwning_closed u .interlock ((Awning.moving_iff _).mp moves).1
  have gained : s.ignitionGained = (u.settled (u.endAwning .interlock)).driveAway :=
    congrArg State.driveAway (if_pos extends')
  rw [gained]
  exact (State.driveAway_closed _ (State.settled_closed u closed)).2

theorem State.ignitionGained_noAwning (absent : s.straps.awning = false) (still : s.awningExtending = false) :
    s.ignitionGained = { s with link := { s.link with ignitionSeen := true } } := by
  let u : State := { s with link := { s.link with ignitionSeen := true } }
  have gained : s.ignitionGained = u.driveAway :=
    congrArg State.driveAway (if_neg (by rw [show u.awningExtending = false from still]; exact Bool.false_ne_true))
  have none : u.driveAway = u := if_neg (by rw [show u.straps.awning = false from absent]; exact Bool.false_ne_true)
  rw [gained, none]

/-! ## The lockout key (R95, R120) -/

theorem State.keyEndsStow_rests (rest : s.aw.stowing = false) : s.keyEndsStow = s := by
  unfold State.keyEndsStow
  rw [rest]; rfl

theorem State.keyEndsStow_over (stow : s.aw.stowing = true) (work : s.working .awning) :
    s.keyEndsStow.overWith .awning .interlock ∧ s.keyEndsStow.aw.pendingStow = s.aw.stowCause := by
  have eq : s.keyEndsStow = (s.settled (s.endAwning .interlock)).setPending s.aw.stowCause := if_pos stow
  have closed : (s.settled (s.endAwning .interlock)).overWith .awning .interlock :=
    State.settled_over s (State.endGroup_over s (g := .awning) .interlock work)
  rw [eq]
  exact ⟨closed, rfl⟩

/-- The key ends the stow that runs or is suspended, which becomes pending with its cause (R95). -/
theorem State.keyGained_stowing (stow : s.aw.stowing = true) (waits : s.waits .awning = false) :
    s.keyGained.overWith .awning .interlock ∧ s.keyGained.aw.pendingStow = s.aw.stowCause := by
  have same := State.view_endMoves s .interlock s.presentGroups (g := .awning)
    (fun _ => ⟨rfl, Awning.moving_of_stowing stow⟩) waits
  have aw := State.aw_of_view same
  have work : s.working .awning := by
    intro idle
    simp [Awning.stowing, idle] at stow
  obtain ⟨closed, pending⟩ := State.keyEndsStow_over (s.endMoves s.presentGroups .interlock) (by rw [aw, stow])
    ((State.working_of_view same).mpr work)
  refine ⟨State.overWith_of_view (State.view_restance _) rfl closed, pending.trans (by rw [aw])⟩

theorem State.keyGained_over (present : s.straps.hasGroup g = true) (work : s.working g)
    (free : g = .awning → s.aw.stowing = true → s.waits .awning = false) : s.keyGained.overWith g .interlock := by
  by_cases stow : g = .awning ∧ s.aw.stowing = true
  · obtain ⟨rfl, stow⟩ := stow
    exact (State.keyGained_stowing s stow (free rfl stow)).1
  · have moves : g = .awning → s.aw.moving = true := by
      rintro rfl
      exact (Awning.moving_iff _).mpr ⟨work, by simpa using stow⟩
    have closed := State.endMoves_over s .interlock s.presentGroups (State.presentGroups_nodup s)
      ((State.mem_presentGroups s).mpr present) work moves
    have kept : (s.endMoves s.presentGroups .interlock).keyEndsStow.view g = (s.endMoves s.presentGroups .interlock).view g := by
      by_cases n : g = .awning
      · subst n
        have idle : (s.endMoves s.presentGroups .interlock).aw.st = .idle := by simpa [State.groupIdle] using closed.idle
        rw [State.keyEndsStow_rests _ (by simp [Awning.stowing, idle, AwningState.work?])]
      · exact State.view_keyEndsStow _ n closed.waits
    exact State.overWith_of_view ((State.view_restance _).trans kept)
      (State.straps_of_still (State.still_keyEndsStow _)) closed

/-! ## The air suspension (R25) -/

theorem State.needsDumped_working (needs : s.needsDumped = true) : s.working .jacks := by
  intro idle
  simp [State.needsDumped, idle] at needs

@[simp] theorem State.still_airChanged : s.airChanged.still = s.still := by
  unfold State.airChanged
  repeat' split
  all_goals simp

theorem State.airChanged_lost (susp : s.straps.airsusp = true) (air : s.inputs.airDumped.level = false) :
    s.airChanged = (if s.needsDumped then s.settled (s.endJacks .airNotDumped) else s) := by
  simp [State.airChanged, susp, air]

theorem State.airChanged_dumped (susp : s.straps.airsusp = true) (air : s.inputs.airDumped.level = true)
    (st : s.jk.st = .work (.levelling .airDump)) (fits : s.fits s.jk.cap.draw) :
    s.airChanged = ({ s with
      arb := s.arb.withPump s.jk.cap.draw
      jk := { s.jk with st := .work (.levelling .touchdown), airLeft := none, waitLeft := none } } : State).restance := by
  have ready : s.airDumpIfReady = s.enterTouchdown := if_pos (by simp [st, air])
  have changed : s.airChanged = s.settled s.airDumpIfReady := by simp [State.airChanged, susp, air]
  rw [changed, ready, State.enterTouchdown_fits s fits]
  exact State.settled_nil _ _ rfl

/-- What has ended stays so while the transmit path goes on. -/
theorem State.overWith.sent {s : State} {reason : Reason} (closed : s.overWith g reason) (l : Link) :
    ({ s with link := l } : State).endedWith g reason ∧ ({ s with link := l } : State).groupOff g := by
  have link : ({ s with link := l } : State).view g = s.view g := State.view_with_link s l
  obtain ⟨ended, off, -⟩ := closed
  exact ⟨State.endedWith_of_view link rfl ended, State.groupOff_of_view link off⟩

/-- Settles O42: each chassis input by what its change delivers. -/
theorem lostPermitsEndOperations : Obligations.LostPermitsEndOperations := by
  unfold Obligations.LostPermitsEndOperations
  intro s x awake
  have works : ∀ i g, s.working g → (s.setInputs i).working g := fun i g work =>
    (State.working_of_view (State.view_setInputs s i)).mpr work
  refine ⟨fun level run => ?_, fun level run => ?_, fun level run => ?_, fun level run => ?_, fun level run susp => ?_,
    fun level run susp st fits => ?_⟩
  · let i : Inputs := { s.inputs with parkSet := s.inputs.parkSet.becomesLow false }
    obtain ⟨l, next, only⟩ := State.change_next s awake (s.inputs.parkSet.changes false) i State.brakeLost
      (InputLine.changes_of level run)
    exact ⟨_, next, only (by simp [State.brakeLost]),
      fun g n present work => (State.brakeLost_over (s.setInputs i) n present (works i g work)).sent l,
      fun present moves outward _ => State.brakeLost_awning (s.setInputs i) present moves outward,
      fun stow waits => State.brakeLost_stowing (s.setInputs i) stow waits⟩
  · let i : Inputs := { s.inputs with ignition := s.inputs.ignition.becomesHigh false }
    obtain ⟨l, next, only⟩ := State.change_next s awake (s.inputs.ignition.changes false) i
      (fun t => t.endMoves [.jacks] .interlock) (InputLine.changes_of level run)
    refine ⟨_, next, only (by simp), fun work => ?_, fun nobody => ?_, fun rest => ?_⟩
    · exact (State.endMoves_over (s.setInputs i) .interlock [.jacks] (by simp) (by simp) (works i .jacks work)
        (by simp)).sent l
    · have others : ∀ g, g ≠ .jacks → ((s.setInputs i).endMoves [.jacks] .interlock).view g = s.view g := fun g n =>
        (State.ignitionLost_others (s.setInputs i) nobody n).trans (State.view_setInputs s i)
      exact ⟨PerRoom.eq_of_get fun r => State.room_of_view (others (.room r) (by simp)),
        State.aw_of_view (others .awning (by simp)), fun c n => State.chan_of_view (others c.owner n) c rfl⟩
    · dsimp only
      rw [State.ignitionLost_idle (s.setInputs i) rest]
      exact ⟨rfl, rfl, rfl, rfl, rfl⟩
  · let i : Inputs := { s.inputs with ignition := s.inputs.ignition.becomesHigh true }
    have row : exec (.ignitionOn x) s
        = s.ifOn (s.changeInput (s.inputs.ignition.changes true) i State.ignitionGained) := by
      show s.ifOn (match s.power with | .dormant => _ | _ => _) = _
      rw [awake]
    obtain ⟨l, next, -⟩ := State.change_next s awake (s.inputs.ignition.changes true) i State.ignitionGained
      (InputLine.changes_of level run)
    refine ⟨_, row.trans next, fun extends' _ => ?_, fun absent still => ?_⟩
    · exact State.ignitionGained_extending (s.setInputs i) extends'
    · rw [State.ignitionGained_noAwning (s.setInputs i) absent still]
      exact ⟨rfl, rfl, rfl, rfl, rfl⟩
  · let i : Inputs := { s.inputs with keyOff := s.inputs.keyOff.becomesLow false }
    obtain ⟨l, next, only⟩ := State.change_next s awake (s.inputs.keyOff.changes false) i State.keyGained
      (InputLine.changes_of level run)
    exact ⟨_, next, only (by simp [State.keyGained]),
      fun g present work free => (State.keyGained_over (s.setInputs i) present (works i g work) free).sent l,
      fun stow waits => (State.keyGained_stowing (s.setInputs i) stow waits).2⟩
  · let i : Inputs := { s.inputs with airDumped := s.inputs.airDumped.becomesHigh (!s.inputs.airDumped.level) }
    obtain ⟨l, next, only⟩ := State.change_next s awake (s.inputs.airDumped.changes (!s.inputs.airDumped.level)) i
      State.airChanged (InputLine.changes_of (by simp) run)
    have changed := State.airChanged_lost (s.setInputs i) susp (by show (!s.inputs.airDumped.level) = false; rw [level]; rfl)
    refine ⟨_, next, only (State.still_airChanged _), fun needs => ?_, fun needs => ?_⟩
    · have closed := State.endJacks_over (s.setInputs i) .airNotDumped (State.needsDumped_working (s.setInputs i) needs)
      rw [changed, if_pos (show (s.setInputs i).needsDumped = true from needs)]
      exact (State.settled_over (s.setInputs i) closed).sent l
    · rw [changed, if_neg (by rw [show (s.setInputs i).needsDumped = false from needs]; exact Bool.false_ne_true)]
      exact ⟨rfl, rfl, rfl, rfl, rfl⟩
  · let i : Inputs := { s.inputs with airDumped := s.inputs.airDumped.becomesHigh (!s.inputs.airDumped.level) }
    obtain ⟨l, next, -⟩ := State.change_next s awake (s.inputs.airDumped.changes (!s.inputs.airDumped.level)) i
      State.airChanged (InputLine.changes_of (by simp) run)
    have changed := State.airChanged_dumped (s.setInputs i) susp (by show (!s.inputs.airDumped.level) = true; rw [level]; rfl)
      st fits
    refine ⟨_, next, ?_⟩
    rw [changed]
    exact ⟨rfl, rfl, rfl, rfl, rfl⟩

end Sys2Proof.Machine
end

section
/-!
SUPPORT. What the work of one group leaves alone at the arbiter and in the attention set: the grants of the other holders,
and SUPERVISION with its causes. The walk of the waiting list and the suspensions that a stow asks for keep SUPERVISION as
it is, and the walk keeps the grant of a holder that does not wait.
-/

namespace Sys2Proof.Machine

open Sys2Proof

variable {g : Group} (s : State)

/-- SUPERVISION and its causes (R156, R157). -/
def State.alarm (s : State) : Bool × SupCauses := (s.sa.supervision, s.sa.causes)

/-- The grants of the holders other than `g`, and SUPERVISION with its causes. -/
structure Outside where
  alarm : Bool × SupCauses
  grants : List Grant

def State.outside (s : State) (g : Group) : Outside :=
  { alarm := s.alarm, grants := s.arb.grants.filter fun e => decide (e.holder ≠ g) }

theorem State.alarm_of_outside {s t : State} (e : t.outside g = s.outside g) : t.alarm = s.alarm := congrArg Outside.alarm e

theorem State.mem_grants_of_outside {s t : State} {x : Grant} (e : t.outside g = s.outside g) (other : x.holder ≠ g)
    (mem : x ∈ s.arb.grants) : x ∈ t.arb.grants := by
  have kept : x ∈ (t.outside g).grants := by
    rw [e]
    exact List.mem_filter.mpr ⟨mem, by simp [other]⟩
  exact (List.mem_filter.mp kept).1

/-- Without a change at the arbiter and of the attention set there is none here. -/
theorem State.outside_of_parts {s t : State} (sa : t.sa = s.sa) (arb : t.arb = s.arb) : t.outside g = s.outside g := by
  simp only [State.outside, State.alarm, sa, arb]

/-! ## Updates -/

@[simp] theorem State.outside_with_jk (v : Levelling) : ({ s with jk := v } : State).outside g = s.outside g := rfl
@[simp] theorem State.outside_with_aw (v : Awning) : ({ s with aw := v } : State).outside g = s.outside g := rfl
@[simp] theorem State.outside_modAw (f : Awning → Awning) : (s.modAw f).outside g = s.outside g := rfl
@[simp] theorem State.outside_setRoom (r : RoomId) (x : Room) : (s.setRoom r x).outside g = s.outside g := rfl
@[simp] theorem State.outside_off (c : ChannelId) : (s.off c).outside g = s.outside g := rfl
@[simp] theorem State.outside_drive (c : ChannelId) (d : ChanDir) (p : Int) : (s.drive c d p).outside g = s.outside g := rfl
@[simp] theorem State.outside_roomOff (r : RoomId) : (s.roomOff r).outside g = s.outside g := rfl
@[simp] theorem State.outside_zeroRoom (r : RoomId) : (s.zeroRoom r).outside g = s.outside g := rfl
@[simp] theorem State.outside_zeroAwning : s.zeroAwning.outside g = s.outside g := rfl
@[simp] theorem State.outside_restance : s.restance.outside g = s.outside g := rfl
@[simp] theorem State.outside_markDone (t : Station) : (s.markDone t).outside g = s.outside g := by cases t <;> rfl
@[simp] theorem State.outside_giveUp (h : Group) : (s.giveUp h).outside g = s.outside g := by cases h <;> rfl
@[simp] theorem State.outside_openValve (j : JackId) (d : ChanDir) : (s.openValve j d).outside g = s.outside g :=
  State.outside_of_parts (by simp) (by simp)
@[simp] theorem State.outside_closeValves : s.closeValves.outside g = s.outside g :=
  State.outside_of_parts (by simp) (by simp)

@[simp] theorem State.outside_joinGroup (h : Group) : (s.joinGroup h).outside g = s.outside g := by
  unfold State.joinGroup
  split <;> rfl

/-- A stop record is no matter of SUPERVISION (R162). -/
@[simp] theorem State.outside_recordEnd (h : Group) (e : StopRecord) : (s.recordEnd h e).outside g = s.outside g := by
  unfold State.recordEnd
  dsimp only
  rw [State.outside_joinGroup, State.outside_restance]
  rfl

/-- A holder's entry leaves the grants of the others (R112). -/
@[simp] theorem State.outside_dropSupply : (s.dropSupply g).outside g = s.outside g := by
  unfold State.dropSupply Arbiter.sagIfEmpty
  split
  · simp only [State.outside, State.alarm, apply_ite Arbiter.grants, ite_self, List.filter_filter, Bool.and_self]
  · rfl

theorem State.outside_foldl {α : Type} (f : State → α → State) (k : ∀ t a, (f t a).outside g = t.outside g) (l : List α)
    (s : State) : (l.foldl f s).outside g = s.outside g := by
  induction l generalizing s with
  | nil => rfl
  | cons a l ih => rw [List.foldl_cons, ih, k]

/-! ## The levelling engine -/

@[simp] theorem State.outside_endJacks (reason : Reason) : (s.endJacks reason).outside .jacks = s.outside .jacks := by
  unfold State.endJacks
  split
  · rfl
  · dsimp only
    rw [State.outside_recordEnd, State.outside_with_jk, State.outside_giveUp, State.outside_dropSupply,
      State.outside_closeValves]

@[simp] theorem State.outside_openTowards (j : JackId) (p : Int) : (s.openTowards j p).outside g = s.outside g := by
  unfold State.openTowards
  repeat' split
  all_goals simp

@[simp] theorem State.outside_openStation (t : Station) : (s.openStation t).outside g = s.outside g := by
  rw [State.openStation, State.outside_foldl _ fun u j => State.outside_openTowards u j _, State.outside_with_jk]

@[simp] theorem State.outside_chooseStation (k : Nat) : (s.chooseStation k).outside g = s.outside g := by
  induction k generalizing s with
  | zero => rfl
  | succ k ih =>
    unfold State.chooseStation
    split
    · rfl
    · dsimp only
      split <;> simp [ih]

@[simp] theorem State.outside_openStow : s.openStow.outside g = s.outside g :=
  State.outside_foldl _ (fun t j => by split <;> simp) _ _

@[simp] theorem State.outside_jogDrive : s.jogDrive.outside .jacks = s.outside .jacks := by
  unfold State.jogDrive
  split
  · rfl
  · split <;> simp

@[simp] theorem State.outside_suspendJacks : s.suspendJacks.outside g = s.outside g :=
  State.outside_closeValves s

theorem State.outside_openUntouched :
    (s.presentJacks.foldl (fun t j => if (t.jk.touch.get j).isSome then t else t.openValve j .first) s).outside g
      = s.outside g :=
  State.outside_foldl _ (fun t j => by split <;> simp) _ _

@[simp] theorem State.outside_returnJacks : s.returnJacks.outside .jacks = s.outside .jacks := by
  unfold State.returnJacks
  dsimp only
  split
  · split
    · simp
    · split <;> simp [State.outside_openUntouched]
    · split
      · split <;> simp
      · simp
    · simp
    · split
      · split <;> simp
      · simp
    · split <;> simp
    · split <;> simp
  · rfl

@[simp] theorem State.outside_grantJacks : s.grantJacks.outside .jacks = s.outside .jacks := by
  unfold State.grantJacks
  dsimp only
  split <;> simp

@[simp] theorem State.outside_resumeJacks : s.resumeJacks.outside .jacks = s.outside .jacks := by
  unfold State.resumeJacks State.returnJacksIfFree
  dsimp only
  split <;> simp

/-! ## Rooms -/

section
variable (r : RoomId)

@[simp] theorem State.outside_finishRoom (reason : Reason) (k : Bool) (p : EndPosition) :
    (s.finishRoom r reason k p).outside (.room r) = s.outside (.room r) := by
  unfold State.finishRoom
  split
  · rfl
  · obtain ⟨j, ended, -⟩ := State.roomEnded_spec
      (((((s.roomOff r).dropSupply (.room r)).giveUp (.room r)).setRoom r ((s.room r).ended k p)).recordEnd (.room r)
        { op := if (s.room r).home then .home else .move, reason := reason, positions := s.roomPositions r
          runMs := (s.room r).runMs, peak := s.roomPeak r })
    dsimp only
    rw [ended, State.outside_with_jk, State.outside_recordEnd, State.outside_setRoom, State.outside_giveUp,
      State.outside_dropSupply, State.outside_roomOff]

@[simp] theorem State.outside_endRoomUnsure (reason : Reason) :
    (s.endRoomUnsure r reason).outside (.room r) = s.outside (.room r) := State.outside_finishRoom s r reason _ _

@[simp] theorem State.outside_roomArrivesIn (reason : Reason) :
    (s.roomArrivesIn r reason).outside (.room r) = s.outside (.room r) := by
  unfold State.roomArrivesIn
  split <;> simp

@[simp] theorem State.outside_enterPreparing : (s.enterPreparing r).outside g = s.outside g := by
  simp [State.enterPreparing]

@[simp] theorem State.outside_enterSettling : (s.enterSettling r).outside g = s.outside g := by
  simp [State.enterSettling]

@[simp] theorem State.outside_roomArrival : (s.roomArrival r).outside (.room r) = s.outside (.room r) := by
  unfold State.roomArrival
  dsimp only
  split <;> split <;> simp

@[simp] theorem State.outside_startDrive (d : Drive) : (s.startDrive r d).outside g = s.outside g := by
  unfold State.startDrive
  split <;> rfl

@[simp] theorem State.outside_enterMoving : (s.enterMoving r).outside (.room r) = s.outside (.room r) := by
  unfold State.enterMoving
  dsimp only
  repeat' split
  all_goals simp

@[simp] theorem State.outside_proceedRoom : (s.proceedRoom r).outside (.room r) = s.outside (.room r) := by
  unfold State.proceedRoom
  dsimp only
  repeat' split
  all_goals simp

@[simp] theorem State.outside_suspendRoom : (s.suspendRoom r).outside g = s.outside g := by
  simp [State.suspendRoom, State.haltRoom]

@[simp] theorem State.outside_returnRoom : (s.returnRoom r).outside (.room r) = s.outside (.room r) := by
  unfold State.returnRoom
  dsimp only
  split
  · split
    · split <;> simp
    · split <;> simp
    · simp
    · split <;> simp
  · rfl

@[simp] theorem State.outside_grantRoom : (s.grantRoom r).outside (.room r) = s.outside (.room r) := by
  unfold State.grantRoom
  split <;> simp

@[simp] theorem State.outside_resumeRoom : (s.resumeRoom r).outside (.room r) = s.outside (.room r) := by
  unfold State.resumeRoom State.returnRoomIfFree
  split <;> simp

end

/-! ## The awning -/

@[simp] theorem State.outside_finishAwning (reason : Reason) (k : Bool) (p : EndPosition) :
    (s.finishAwning reason k p).outside .awning = s.outside .awning := by
  unfold State.finishAwning
  split
  · rfl
  · dsimp only
    rw [State.outside_recordEnd, State.outside_with_aw, State.outside_dropSupply, State.outside_off]

@[simp] theorem State.outside_endAwning (reason : Reason) : (s.endAwning reason).outside .awning = s.outside .awning :=
  State.outside_finishAwning s reason _ _

@[simp] theorem State.outside_awningArrivesIn : s.awningArrivesIn.outside .awning = s.outside .awning := by
  simp [State.awningArrivesIn]

@[simp] theorem State.outside_driveAwning : s.driveAwning.outside .awning = s.outside .awning := by
  rcases State.driveAwning_cases s with ⟨-, eq⟩ | ⟨-, -, eq⟩ <;> simp [eq]

@[simp] theorem State.outside_enterAwningMoving : s.enterAwningMoving.outside .awning = s.outside .awning := by
  unfold State.enterAwningMoving
  dsimp only
  split <;> split <;> simp

@[simp] theorem State.outside_enterStowing : s.enterStowing.outside .awning = s.outside .awning := by
  unfold State.enterStowing
  dsimp only
  split <;> simp

@[simp] theorem State.outside_suspendAwning : s.suspendAwning.outside g = s.outside g := by
  simp [State.suspendAwning, State.haltAwning]

@[simp] theorem State.outside_returnAwning : s.returnAwning.outside .awning = s.outside .awning := by
  unfold State.returnAwning
  dsimp only
  split
  · split
    · split <;> simp
    · simp
    · simp
  · rfl

@[simp] theorem State.outside_grantAwning : s.grantAwning.outside .awning = s.outside .awning := by
  unfold State.grantAwning
  dsimp only
  split <;> simp

@[simp] theorem State.outside_resumeAwning : s.resumeAwning.outside .awning = s.outside .awning := by
  unfold State.resumeAwning State.returnAwningIfFree
  split <;> simp

/-! ## The walk (R107) -/

theorem State.outside_notifyGrant (e : Waiting) : (s.notifyGrant e).outside e.holder = s.outside e.holder := by
  obtain ⟨holder, cls, draw, before⟩ := e
  cases holder <;> cases before <;> simp [State.notifyGrant]

@[simp] theorem State.alarm_grantHead (e : Waiting) (rest : List Waiting) : (s.grantHead e rest).alarm = s.alarm := rfl

@[simp] theorem State.alarm_walkFuel (k : Nat) : (s.walkFuel k).alarm = s.alarm := by
  induction k generalizing s with
  | zero => rfl
  | succ k ih =>
    unfold State.walkFuel
    split
    · rfl
    · split
      · rw [ih, State.alarm_of_outside (State.outside_notifyGrant _ _), State.alarm_grantHead]
      · rfl

@[simp] theorem State.alarm_settled (t : State) : (s.settled t).alarm = t.alarm := by
  show (s.walkAfter t).alarm = t.alarm
  unfold State.walkAfter
  split
  · exact State.alarm_walkFuel t _
  · rfl

/-- The walk takes no grant away from a holder that does not wait. -/
theorem State.mem_grants_walkFuel {x : Grant} (k : Nat) (free : s.waits x.holder = false) (mem : x ∈ s.arb.grants) :
    x ∈ (s.walkFuel k).arb.grants := by
  induction k generalizing s with
  | zero => exact mem
  | succ k ih =>
    unfold State.walkFuel
    split
    · exact mem
    · rename_i e rest list
      split
      · have other : x.holder ≠ e.holder := by
          intro same
          simp [State.waits, list, same] at free
        have view : ((s.grantHead e rest).notifyGrant e).view x.holder = s.view x.holder := by
          rw [State.view_notifyGrant _ _ other, State.view_grantHead s e rest list other]
        refine ih _ (by rw [State.waits_of_view view, free]) ?_
        exact State.mem_grants_of_outside (State.outside_notifyGrant _ e) other (List.mem_append_left _ mem)
      · exact mem

theorem State.mem_grants_settled {x : Grant} (t : State) (free : t.waits x.holder = false) (mem : x ∈ t.arb.grants) :
    x ∈ (s.settled t).arb.grants := by
  show x ∈ (s.walkAfter t).arb.grants
  unfold State.walkAfter
  split
  · exact State.mem_grants_walkFuel t _ free mem
  · exact mem

/-! ## Suspensions (R109, R110) -/

@[simp] theorem State.alarm_notifySuspend : (s.notifySuspend g).alarm = s.alarm := by
  cases g with
  | jacks => exact State.alarm_of_outside (State.outside_suspendJacks (g := .jacks) s)
  | room r => exact State.alarm_of_outside (State.outside_suspendRoom (g := .room r) s r)
  | awning => exact State.alarm_of_outside (State.outside_suspendAwning (g := .awning) s)

@[simp] theorem State.alarm_suspendUntil (need k : Nat) : (s.suspendUntil need k).alarm = s.alarm := by
  induction k generalizing s with
  | zero => rfl
  | succ k ih =>
    unfold State.suspendUntil
    split
    · rfl
    · split
      · rfl
      · rw [ih, State.suspendHolder, State.alarm_notifySuspend]
        rfl

end Sys2Proof.Machine
end

section
/-!
PROOFS. The awning on its way (O26): a granted MOVE or HOME and one that a RESUME lets go on drive channel 19 (R84, R85,
R88, R89, R119).
-/

namespace Sys2Proof.Machine

open Sys2Proof

variable (s : State)

/-! ## Entry to MOVING (R85) -/

/-- The awning stands away from where its operation seeks to go: more than 8 from its count, or off its switch. -/
def State.awningOffTarget (s : State) : Prop :=
  match s.aw.targetCount with
  | some n => 8 < absInt (s.fe.awningCount.handed - n)
  | none => s.stowed = false

/-- The awning in MOVING, not yet driven. -/
def State.awningMoving (s : State) : State := s.modAw fun a => { a with st := .work .moving, waitLeft := none }

theorem State.enterAwningMoving_away (away : s.awningOffTarget) : s.enterAwningMoving = s.awningMoving.driveAwning := by
  have target : s.awningMoving.aw.targetCount = s.aw.targetCount := rfl
  unfold State.awningOffTarget at away
  unfold State.enterAwningMoving
  dsimp only
  rw [show (s.modAw fun a => { a with st := .work .moving, waitLeft := none }) = s.awningMoving from rfl, target]
  split
  · next n found =>
      rw [found] at away
      exact if_neg (Int.not_le.mpr away)
  · next found =>
      rw [found] at away
      exact if_neg (by rw [show s.awningMoving.stowed = false from away]; exact Bool.false_ne_true)

theorem State.towardsTarget_count {n : Int} (target : s.aw.targetCount = some n) :
    s.towardsTarget = if s.fe.awningCount.handed < n then .first else .second := by
  rw [State.towardsTarget, target]

theorem State.towardsTarget_switch (target : s.aw.targetCount = none) : s.towardsTarget = .second := by
  rw [State.towardsTarget, target]

theorem outward_iff (count n : Int) : (if count < n then ChanDir.first else .second) = .first ↔ count < n := by
  split <;> simp [*]

/-- The awning driven towards its target: 100 %, a Home 50 % (R85, R89). -/
def State.awningDriven (s : State) : State :=
  (s.awningMoving.drive .awning s.towardsTarget (if s.aw.op = .home then 50 else 100)).modAw fun a =>
    { a with endPos := .unknown }

theorem State.awningDriven_chan :
    (s.awningDriven.chan .awning).mode = .driven s.towardsTarget (if s.aw.op = .home then 50 else 100)
      ∧ ∀ c, c ≠ .awning → s.awningDriven.chan c = s.chan c := by
  refine ⟨?_, fun c n => State.drive_chan_other s.awningMoving .awning c _ _ n⟩
  show ((s.awningMoving.drive .awning _ _).chan .awning).mode = _
  rw [State.drive_chan_same, Channel.commanded_mode]

/-- Driving the awning is the business of its controller and its channel. -/
theorem State.awningDriven_frame :
    s.awningDriven.jk = s.jk ∧ s.awningDriven.rooms = s.rooms ∧ s.awningDriven.arb = s.arb ∧ s.awningDriven.guard = s.guard
      ∧ s.awningDriven.fe = s.fe
      ∧ s.awningDriven.aw = { s.aw with st := .work .moving, waitLeft := none, endPos := .unknown } := by
  simp [State.awningDriven, State.awningMoving]

/-- Away from its target the awning is driven, but not outward with the brake released (R85, R119). -/
theorem State.enterAwningMoving_drives (away : s.awningOffTarget)
    (free : ¬ (s.towardsTarget = .first ∧ s.inputs.parkSet.level = false)) : s.enterAwningMoving = s.awningDriven := by
  rw [State.enterAwningMoving_away s away]
  rcases State.driveAwning_cases s.awningMoving with ⟨-, eq⟩ | ⟨released, out, -⟩
  · exact eq
  · exact absurd ⟨out, by simpa [State.brakeReleased, State.awningMoving] using released⟩ free

theorem State.enterAwningMoving_released (away : s.awningOffTarget) (out : s.towardsTarget = .first)
    (released : s.inputs.parkSet.level = false) : s.enterAwningMoving = s.awningMoving.endAwning .interlock := by
  rw [State.enterAwningMoving_away s away]
  rcases State.driveAwning_cases s.awningMoving with ⟨free, -⟩ | ⟨-, -, eq⟩
  · exact absurd ⟨by simpa [State.brakeReleased, State.awningMoving] using released, out⟩ free
  · exact eq

/-! ## A request that is granted at once (R84, R106) -/

/-- The arbiter with the awning's entry at the end of its grant table. -/
def Arbiter.withAwning (a : Arbiter) (draw : Nat) : Arbiter :=
  { a with waiting := [], grants := a.grants ++ [{ holder := .awning, cls := .awning, draw := draw }] }

/-- An awning operation as it was taken, with its grant. -/
def State.awningGranted (s : State) (op : AwningOp) (t : Target) (extend : Bool) : State :=
  { s.takeAwning op t extend with arb := s.arb.withAwning s.awningCapture.draw }

theorem State.awningGranted_chan (op : AwningOp) (t : Target) (extend : Bool) (c : ChannelId) (n : c ≠ .awning) :
    (s.awningGranted op t extend).chan c = s.chan c := by
  have owner : c.owner ≠ .awning := by
    cases c with
    | awning => exact absurd rfl n
    | _ => simp
  exact (State.clearPeaks_chan s .awning c).trans (if_neg owner)

theorem State.askAwning_fits (op : AwningOp) (t : Target) (extend : Bool) (fits : s.fits s.awningCapture.draw)
    (nobody : (s.awningGranted op t extend).enterAwningMoving.arb.waiting = []) :
    (s.takeAwning op t extend).askAwning = (s.awningGranted op t extend).enterAwningMoving := by
  have granted : (s.takeAwning op t extend).requestSupply .awning .awning s.awningCapture.draw
      = (s.awningGranted op t extend).enterAwningMoving :=
    State.requestSupply_fits (s.takeAwning op t extend) .awning .awning _ fits
  unfold State.askAwning
  rw [show (s.takeAwning op t extend).aw.cap.draw = s.awningCapture.draw from rfl, granted]
  exact if_neg (by simp [State.waits_of_nil _ .awning nobody])

/-- What an awning operation leaves that is driven from its grant on (R84, R85). -/
theorem State.awning_drives (op : AwningOp) (t : Target) (extend : Bool) (fits : s.fits s.awningCapture.draw)
    (away : (s.awningGranted op t extend).awningOffTarget)
    (free : ¬ ((s.awningGranted op t extend).towardsTarget = .first ∧ s.inputs.parkSet.level = false)) :
    s.settled (s.takeAwning op t extend).askAwning = (s.awningGranted op t extend).awningDriven.restance := by
  have driven := State.enterAwningMoving_drives (s.awningGranted op t extend) away free
  rw [State.askAwning_fits s op t extend fits (by rw [driven]; rfl), driven]
  exact State.settled_nil s _ rfl

theorem State.awning_released (op : AwningOp) (t : Target) (extend : Bool) (fits : s.fits s.awningCapture.draw)
    (away : (s.awningGranted op t extend).awningOffTarget) (out : (s.awningGranted op t extend).towardsTarget = .first)
    (released : s.inputs.parkSet.level = false) :
    s.settled (s.takeAwning op t extend).askAwning
      = ((s.awningGranted op t extend).awningMoving.endAwning .interlock).restance := by
  have ended := State.enterAwningMoving_released (s.awningGranted op t extend) away out released
  have nobody : ((s.awningGranted op t extend).awningMoving.endAwning .interlock).arb.waiting = [] :=
    State.endGroup_waiting_nil _ (g := .awning) .interlock rfl
  rw [State.askAwning_fits s op t extend fits (by rw [ended, nobody]), ended]
  exact State.settled_nil s _ nobody

/-! ## The requests (R83, R89) -/

variable {s}

theorem State.onAwningMove_away {e : EndCode} (v : Half) (ne : e ≠ .inn) (known : s.aw.known = true)
    (clear : s.awningClear (moveExtends e (clampTravel s.store.active.awningCal.travel v) s.fe.awningCount.live)) :
    s.onAwningMove e v = (.ok (moveFields e v (clampTravel s.store.active.awningCal.travel v)),
      s.settled ((s.takeAwning .move (moveTarget e (clampTravel s.store.active.awningCal.travel v))
        (moveExtends e (clampTravel s.store.active.awningCal.travel v) s.fe.awningCount.live)).askAwning)) := by
  obtain ⟨present, busy, checks⟩ := clear.checks
  have start : ∀ x, s.startAwning .move (moveTarget e (clampTravel s.store.active.awningCal.travel v)) x
      = (s.takeAwning .move (moveTarget e (clampTravel s.store.active.awningCal.travel v)) x).askAwning := by
    cases e with
    | inn => exact absurd rfl ne
    | _ => exact fun _ => rfl
  have op : (if decide (e = .inn) && !s.aw.known then AwningOp.home else .move) = .move := by simp [known]
  rw [← start, ← op]
  refine judged_taken s _ _ fun c mem => ?_
  rcases List.mem_append.mp mem with mem | mem
  · simpa [busy, present, known, failsIf] using mem
  · exact checks c mem

theorem State.startAwning_home (out : s.stowed = false) :
    s.startAwning .home .inn false = (s.takeAwning .home .inn false).askAwning := by simp [State.startAwning, out]

/-- The count that a MOVE seeks (R84). -/
def moveGoal (travel : Int) (e : EndCode) (n : Int) : Int :=
  match e with
  | .out => travel
  | _ => n

variable (s) in
theorem State.awningGranted_target {e : EndCode} (n : Int) (extend : Bool) (ne : e ≠ .inn) :
    (s.awningGranted .move (moveTarget e n) extend).aw.targetCount
      = some (moveGoal s.store.active.awningCal.travel e n) := by
  cases e with
  | inn => exact absurd rfl ne
  | _ => rfl

/-! ## RESUME (R88, R137) -/

variable (s)

/-- The state with the awning out of the freeze set. -/
def State.awningThawed (s : State) : State := { s with guard := { s.guard with freeze := s.guard.freeze.set .awning false } }

/-- A RESUME of the awning alone (R137). -/
theorem State.onResume_awning (present : s.straps.awning = true) (frozen : s.frozen .awning = true) :
    s.onResume 0x20 = (.ok [0x20], s.awningThawed.settled (s.awningThawed.unfreezeOp .awning)) := by
  have bit : ∀ g ∈ Group.all, inMask 0x20 g = decide (g = .awning) := by decide
  have here : ∀ g ∈ Group.all, (inMask 0x20 g && s.straps.hasGroup g) = decide (g = .awning) := by
    intro g mem
    rw [bit g mem]
    by_cases e : g = .awning
    · subst e; simpa [Straps.hasGroup] using present
    · simp [e]
  have named : s.namedGroups 0x20 = [.awning] := by
    rw [State.namedGroups, State.presentGroups, List.filter_filter, List.filter_congr here]
    rfl
  have resumed : s.resumeGroup .awning = s.awningThawed.settled (s.awningThawed.unfreezeOp .awning) := if_pos frozen
  simp only [State.onResume, named, List.foldl_cons, List.foldl_nil, resumed, List.map_cons, List.map_nil, frozen]
  rfl

/-- A move that only the freeze held back, out of the freeze set and about to enter MOVING. -/
def State.awningFreed (s : State) : State :=
  { s.awningThawed with aw := { s.aw with
      st := .work .moving, causes := { s.aw.causes with freeze := false }, waitLeft := s.aw.waitLeft.map fun _ => awningBound } }

theorem State.unfreezeAwning_moves (st : s.aw.st = .suspended .moving)
    (causes : s.aw.causes = { Causes.none with freeze := true }) :
    s.awningThawed.unfreezeAwning = s.awningFreed.enterAwningMoving := by
  have empty : ({ s.aw.causes with freeze := false } : Causes).isEmpty = true := by rw [causes]; rfl
  have aw : s.awningThawed.aw = s.aw := rfl
  unfold State.unfreezeAwning State.returnAwningIfFree State.returnAwning
  simp only [State.modAw_aw, aw, st]
  exact if_pos empty

theorem State.awningFreed_causes (causes : s.aw.causes = { Causes.none with freeze := true }) :
    s.awningFreed.aw.causes = .none := by
  show ({ s.aw.causes with freeze := false } : Causes) = _
  rw [causes]
  rfl

theorem State.unfreezeOp_awning (st : s.aw.st = .suspended .moving)
    (causes : s.aw.causes = { Causes.none with freeze := true }) :
    s.awningThawed.unfreezeOp .awning = s.awningFreed.enterAwningMoving.takeUpStow := by
  rw [← State.unfreezeAwning_moves s st causes]
  simp only [State.unfreezeOp, show s.awningThawed.aw.st = .suspended .moving from st, AwningState.work?]

/-- No stow is taken up where none is pending, or where an operation runs (R95). -/
theorem State.takeUpStow_busy (busy : s.aw.pendingStow = none ∨ s.aw.st ≠ .idle) : s.takeUpStow = s := by
  unfold State.takeUpStow
  split
  · rfl
  · next c found =>
      rcases busy with none | working
      · exact absurd (none.symm.trans found) (Option.some_ne_none c).symm
      · simp [working]

@[simp] theorem State.still_awningMoving : s.awningMoving.still = s.still := State.still_modAw s _

@[simp] theorem State.still_awningDriven : s.awningDriven.still = s.still := by
  rw [State.awningDriven, State.still_modAw, State.still_drive, State.still_awningMoving]

@[simp] theorem State.still_awningGranted (op : AwningOp) (t : Target) (extend : Bool) :
    (s.awningGranted op t extend).still = s.still := by
  rw [State.awningGranted, State.still_with_arb, State.still_takeAwning]

@[simp] theorem State.still_awningFreed : s.awningFreed.still = s.still := rfl

/-! ## What the awning leaves under way, and what it leaves with the brake released -/

/-- The awning is driven by an operation that was granted in `t` and not in `s`, and nothing else but replies has changed
(R84, R85, R89). -/
def State.awningUnderWay (s t : State) (op : AwningOp) (dir : ChanDir) (duty : Int) : Prop :=
  t.aw.st = .work .moving ∧ t.aw.op = op ∧ t.aw.endPos = .unknown ∧ t.aw.known = s.aw.known ∧ t.aw.runMs = 0
    ∧ t.aw.cap = s.awningCapture ∧ (t.chan .awning).mode = .driven dir duty
    ∧ (∀ c, c ≠ .awning → t.chan c = s.chan c)
    ∧ t.arb.grants = s.arb.grants ++ [{ holder := .awning, cls := .awning, draw := s.awningCapture.draw }]
    ∧ t.jk = s.jk ∧ t.rooms = s.rooms ∧ t.guard = s.guard ∧ t.fe = s.fe ∧ t.framed = s.framed

theorem State.awningGranted_frame (op : AwningOp) (t : Target) (extend : Bool) :
    (s.awningGranted op t extend).jk = s.jk ∧ (s.awningGranted op t extend).rooms = s.rooms
      ∧ (s.awningGranted op t extend).guard = s.guard ∧ (s.awningGranted op t extend).fe = s.fe := by
  simp [State.awningGranted, State.takeAwning]

theorem State.awningGranted_underWay (op : AwningOp) (tgt : Target) (extend : Bool) :
    s.awningUnderWay (s.awningGranted op tgt extend).awningDriven op (s.awningGranted op tgt extend).towardsTarget
      (if op = .home then 50 else 100) := by
  obtain ⟨m, granted⟩ : ∃ m, s.awningGranted op tgt extend = m := ⟨_, rfl⟩
  obtain ⟨jk', rooms', guard', fe'⟩ := State.awningGranted_frame s op tgt extend
  have chan := State.awningGranted_chan s op tgt extend
  have still := State.still_awningGranted s op tgt extend
  have kept : m.aw.op = op ∧ m.aw.known = s.aw.known ∧ m.aw.runMs = 0 ∧ m.aw.cap = s.awningCapture
      ∧ m.arb = s.arb.withAwning s.awningCapture.draw := by
    rw [← granted]; exact ⟨rfl, rfl, rfl, rfl, rfl⟩
  obtain ⟨isOp, known, run, cap, arb'⟩ := kept
  rw [granted] at jk' rooms' guard' fe' chan still ⊢
  obtain ⟨motor, others⟩ := State.awningDriven_chan m
  obtain ⟨jk, rooms, arb, guard, fe, aw⟩ := State.awningDriven_frame m
  rw [isOp] at motor
  refine ⟨by rw [aw], by rw [aw, ← isOp], by rw [aw], by rw [aw, ← known], by rw [aw, ← run], by rw [aw, ← cap], motor,
    fun c n => (others c n).trans (chan c n), by rw [arb, arb']; rfl, jk.trans jk', rooms.trans rooms',
    guard.trans guard', fe.trans fe', State.framed_of_still ?_⟩
  rw [State.still_awningDriven, still]

/-- The stance that follows and the frames that are sent are no part of what is under way. -/
theorem State.awningUnderWay_sent {u : State} {op : AwningOp} {dir : ChanDir} {duty : Int} (l : Link)
    (way : s.awningUnderWay u op dir duty) (framed : ({ u.restance with link := l } : State).framed = s.framed) :
    s.awningUnderWay { u.restance with link := l } op dir duty := by
  obtain ⟨st, isOp, endPos, known, run, cap, motor, others, grants, jk, rooms, guard, fe, -⟩ := way
  exact ⟨st, isOp, endPos, known, run, cap, motor, others, grants, jk, rooms, guard, fe, framed⟩

theorem State.chan_sent (u : State) (l : Link) (c : ChannelId) :
    ({ u.restance with link := l } : State).chan c = u.chan c := rfl

/-- The end with INTERLOCK of a move that would be driven outward with the brake released (R119). -/
theorem State.awningMoving_interlock :
    (s.awningMoving.endAwning .interlock).overWith .awning .interlock
      ∧ (s.awningMoving.endAwning .interlock).aw = s.awningMoving.aw.ended s.aw.known s.aw.endPos
      ∧ (s.awningMoving.endAwning .interlock).guard = s.guard
      ∧ (s.awningMoving.endAwning .interlock).fe = s.fe
      ∧ (∀ c, c ≠ .awning → (s.awningMoving.endAwning .interlock).chan c = s.chan c)
      ∧ (s.awningMoving.endAwning .interlock).jk = s.jk ∧ (s.awningMoving.endAwning .interlock).rooms = s.rooms := by
  have work : s.awningMoving.working .awning := Option.some_ne_none AwningWork.moving
  obtain ⟨t, eq, aw, -, -, -, -, others, jk, rooms, fe, guard, -⟩ :=
    State.finishAwning_spec s.awningMoving .interlock s.awningMoving.aw.known s.awningMoving.aw.endPos work
  have ended : s.awningMoving.endAwning .interlock = t := eq
  refine ⟨State.finishAwning_over s.awningMoving .interlock _ _ work, ?_⟩
  rw [ended]
  exact ⟨aw, guard, fe, others, jk, rooms⟩

/-- What a MOVE that is granted away from its target turns on (R84, R85). -/
theorem State.awningGranted_seeks {e : EndCode} {n : Int} (extend : Bool) (ne : e ≠ .inn)
    (far : 8 < absInt (s.fe.awningCount.handed - moveGoal s.store.active.awningCal.travel e n)) :
    (s.awningGranted .move (moveTarget e n) extend).awningOffTarget
      ∧ (s.awningGranted .move (moveTarget e n) extend).towardsTarget
        = if s.fe.awningCount.handed < moveGoal s.store.active.awningCal.travel e n then .first else .second := by
  have target := State.awningGranted_target s n extend ne
  refine ⟨?_, State.towardsTarget_count _ target⟩
  rw [State.awningOffTarget, target]
  exact far

/-- A MOVE that is granted away from its target is driven towards it (R84, R85). -/
theorem State.awningMove_drives {s : State} (tag : Byte) {e : EndCode} {v : Half} {n : Int} {ext : Bool} (ready : s.ready)
    (fits : s.fits s.awningCapture.draw)
    (taken : s.onAwningMove e v = (.ok (moveFields e v n), s.settled (s.takeAwning .move (moveTarget e n) ext).askAwning))
    (away : (s.awningGranted .move (moveTarget e n) ext).awningOffTarget)
    (free : ¬ ((s.awningGranted .move (moveTarget e n) ext).towardsTarget = .first ∧ s.inputs.parkSet.level = false)) :
    ∃ t, exec (.awningMove tag e v) s = .next t ∧ s.hasReply t (replyOf 0x10 tag (0 :: moveFields e v n))
      ∧ s.awningUnderWay t .move (s.awningGranted .move (moveTarget e n) ext).towardsTarget 100 := by
  rw [State.awning_drives s .move (moveTarget e n) ext fits away free] at taken
  obtain ⟨l, next, reply, framed⟩ := ready.takes tag (.awningMove e v) (moveFields e v n)
    (s.awningGranted .move (moveTarget e n) ext).awningDriven.restance rfl rfl (by simp)
  exact ⟨_, by rw [← next, ← taken]; rfl, reply,
    State.awningUnderWay_sent s l (State.awningGranted_underWay s .move (moveTarget e n) ext) framed⟩

/-- With the brake released a MOVE that would be driven outward ends with INTERLOCK (R119). -/
theorem State.awningMove_released {s : State} (tag : Byte) {e : EndCode} {v : Half} {n : Int} {ext : Bool} (ready : s.ready)
    (fits : s.fits s.awningCapture.draw)
    (taken : s.onAwningMove e v = (.ok (moveFields e v n), s.settled (s.takeAwning .move (moveTarget e n) ext).askAwning))
    (away : (s.awningGranted .move (moveTarget e n) ext).awningOffTarget)
    (out : (s.awningGranted .move (moveTarget e n) ext).towardsTarget = .first) (released : s.inputs.parkSet.level = false) :
    ∃ t, exec (.awningMove tag e v) s = .next t ∧ s.hasReply t (replyOf 0x10 tag (0 :: moveFields e v n))
      ∧ t.endedWith .awning .interlock ∧ t.groupOff .awning ∧ t.aw.known = s.aw.known ∧ t.fe = s.fe
      ∧ (∀ c, c ≠ .awning → t.chan c = s.chan c) ∧ t.jk = s.jk ∧ t.rooms = s.rooms ∧ t.framed = s.framed := by
  let m := s.awningGranted .move (moveTarget e n) ext
  obtain ⟨closed, aw, -, fe, others, jk, rooms⟩ := State.awningMoving_interlock m
  rw [State.awning_released s .move (moveTarget e n) ext fits away out released] at taken
  obtain ⟨l, next, reply, framed⟩ := ready.takes tag (.awningMove e v) (moveFields e v n)
    (m.awningMoving.endAwning .interlock).restance rfl rfl
    (by simp [m])
  obtain ⟨ended, off⟩ := closed.sent l
  refine ⟨_, by rw [← next, ← taken]; rfl, reply, ended, off, (congrArg Awning.known aw :), fe, fun c n => ?_, jk, rooms, framed⟩
  rw [State.chan_sent, others c n, State.awningGranted_chan s _ _ _ c n]

/-- A HOME with the switch open is driven inward at 50 % (R89). -/
theorem State.awningHome_drives {s : State} (tag : Byte) (ready : s.ready) (fits : s.fits s.awningCapture.draw)
    (out : s.stowed = false) (clear : s.awningClear false) :
    ∃ t, exec (.awningHome tag) s = .next t ∧ s.hasReply t (replyOf 0x13 tag [0])
      ∧ s.awningUnderWay t .home .second 50 := by
  let m := s.awningGranted .home .inn false
  have inward : m.towardsTarget = .second := State.towardsTarget_switch m rfl
  have taken := State.onAwningHome_taken clear
  rw [State.startAwning_home out, State.awning_drives s .home .inn false fits out (by simp [m, inward])] at taken
  obtain ⟨l, next, reply, framed⟩ := ready.takes tag .awningHome [] m.awningDriven.restance rfl rfl (by simp [m])
  exact ⟨_, by rw [← next, ← taken]; rfl, reply,
    State.awningUnderWay_sent s l (inward ▸ State.awningGranted_underWay s .home .inn false) framed⟩

/-! ## A MOVE that goes on -/

variable {s}

/-- A RESUME of the awning alone, with what it answers, up to what the transmit path does. -/
theorem State.resumeAwning_next (tag : Byte) {u : State} (ready : s.ready)
    (taken : s.onResume 0x20 = (.ok [0x20], s.awningThawed.settled u)) (still : u.still = s.still)
    (freeze : u.guard.freeze = s.guard.freeze.set .awning false) :
    ∃ l : Link, exec (.resume tag 0x20) s = .next { s.awningThawed.settled u with link := l }
      ∧ s.hasReply { s.awningThawed.settled u with link := l } (replyOf 0x15 tag [0, 0x20])
      ∧ ({ s.awningThawed.settled u with link := l } : State).frozen .awning = false := by
  obtain ⟨l, next, reply, -⟩ := ready.takes tag (.resume 0x20) [0x20] (s.awningThawed.settled u) rfl rfl (by simp [still])
  refine ⟨l, by rw [← next, ← taken]; rfl, reply, ?_⟩
  show (s.awningThawed.settled u).guard.freeze.get .awning = false
  rw [State.freeze_settled, freeze, PerGroup.get_set_same]

theorem State.awningFreed_seeks {goal : Int} (target : s.aw.targetCount = some goal)
    (far : 8 < absInt (s.fe.awningCount.handed - goal)) :
    s.awningFreed.awningOffTarget
      ∧ s.awningFreed.towardsTarget = if s.fe.awningCount.handed < goal then .first else .second := by
  have same : s.awningFreed.aw.targetCount = some goal := target
  refine ⟨?_, State.towardsTarget_count _ same⟩
  rw [State.awningOffTarget, same]
  exact far

/-- A MOVE that only the freeze held back goes on towards its target (R88, R137). -/
theorem State.resume_drives {s : State} (tag : Byte) (ready : s.ready) (present : s.straps.awning = true)
    (frozen : s.frozen .awning = true) (st : s.aw.st = .suspended .moving)
    (causes : s.aw.causes = { Causes.none with freeze := true }) (op : s.aw.op = .move)
    (away : s.awningFreed.awningOffTarget)
    (free : ¬ (s.awningFreed.towardsTarget = .first ∧ s.inputs.parkSet.level = false)) :
    ∃ t, exec (.resume tag 0x20) s = .next t ∧ s.hasReply t (replyOf 0x15 tag [0, 0x20]) ∧ t.frozen .awning = false
      ∧ t.aw.st = .work .moving ∧ t.aw.causes = .none ∧ t.aw.target = s.aw.target ∧ t.aw.runMs = s.aw.runMs
      ∧ t.aw.endPos = .unknown ∧ (t.chan .awning).mode = .driven s.awningFreed.towardsTarget 100
      ∧ (∀ c, c ≠ .awning → t.chan c = s.chan c) ∧ t.arb = s.arb ∧ t.jk = s.jk ∧ t.rooms = s.rooms := by
  have taken := State.onResume_awning s present frozen
  obtain ⟨motor, others⟩ := State.awningDriven_chan s.awningFreed
  obtain ⟨jk, rooms, arb, guard, -, aw⟩ := State.awningDriven_frame s.awningFreed
  have acts : s.awningThawed.unfreezeOp .awning = s.awningFreed.awningDriven := by
    rw [State.unfreezeOp_awning s st causes, State.enterAwningMoving_drives s.awningFreed away free]
    exact State.takeUpStow_busy _ (.inr (by rw [aw]; simp))
  rw [acts] at taken
  obtain ⟨l, next, reply, thawed⟩ := State.resumeAwning_next tag ready taken (by simp) (congrArg Guard.freeze guard :)
  rw [State.settled_same s.awningThawed s.awningFreed.awningDriven arb] at next reply thawed
  have full : (if s.awningFreed.aw.op = .home then (50 : Int) else 100) = 100 :=
    if_neg (by rw [show s.awningFreed.aw.op = .move from op]; simp)
  refine ⟨_, next, reply, thawed, (congrArg Awning.st aw :),
    (congrArg Awning.causes aw :).trans (State.awningFreed_causes s causes), (congrArg Awning.target aw :),
    (congrArg Awning.runMs aw :), (congrArg Awning.endPos aw :), ?_, fun c n => ?_, arb, jk, rooms⟩
  · rw [State.chan_sent, motor, full]
  · rw [State.chan_sent, others c n]
    rfl

/-- With the brake released a MOVE that would go on outward ends with INTERLOCK (R119). -/
theorem State.resume_released {s : State} (tag : Byte) (ready : s.ready) (present : s.straps.awning = true)
    (frozen : s.frozen .awning = true) (st : s.aw.st = .suspended .moving)
    (causes : s.aw.causes = { Causes.none with freeze := true }) (away : s.awningFreed.awningOffTarget)
    (out : s.awningFreed.towardsTarget = .first) (released : s.inputs.parkSet.level = false)
    (quiet : s.aw.pendingStow = none) :
    ∃ t, exec (.resume tag 0x20) s = .next t ∧ s.hasReply t (replyOf 0x15 tag [0, 0x20]) ∧ t.frozen .awning = false
      ∧ t.endedWith .awning .interlock ∧ t.groupOff .awning ∧ t.aw.known = s.aw.known := by
  have taken := State.onResume_awning s present frozen
  obtain ⟨u, ended⟩ : ∃ u, s.awningFreed.awningMoving.endAwning .interlock = u := ⟨_, rfl⟩
  obtain ⟨closed, aw, guard, -⟩ := State.awningMoving_interlock s.awningFreed
  rw [ended] at closed aw guard
  have acts : s.awningThawed.unfreezeOp .awning = u := by
    rw [State.unfreezeOp_awning s st causes, State.enterAwningMoving_released s.awningFreed away out released, ended]
    exact State.takeUpStow_busy u (.inl ((congrArg Awning.pendingStow aw :).trans quiet))
  rw [acts] at taken
  obtain ⟨l, next, reply, thawed⟩ := State.resumeAwning_next tag ready taken (by simp [← ended]) (congrArg Guard.freeze guard :)
  obtain ⟨idle, off⟩ := (State.settled_over s.awningThawed closed).sent l
  have kept := State.aw_of_view (State.view_settled s.awningThawed u closed.waits)
  exact ⟨_, next, reply, thawed, idle, off, (congrArg Awning.known (kept.trans aw) :)⟩

/-- Settles O26: a granted MOVE, a granted HOME, and a MOVE that a RESUME lets go on. -/
theorem awningDrives : Obligations.AwningDrives := by
  unfold Obligations.AwningDrives
  refine ⟨?_, ?_⟩
  · intro s tag e v n goal ext ready fits drives
    refine ⟨fun ne known clear far => ?_, fun out clear => State.awningHome_drives tag ready fits out clear⟩
    have taken := State.onAwningMove_away v ne known clear
    obtain ⟨away, towards⟩ := State.awningGranted_seeks s (n := n) ext ne far
    by_cases shut : s.fe.awningCount.handed < goal ∧ s.inputs.parkSet.level = false
    · obtain ⟨t, next, reply, ended, off, stays, rest⟩ :=
        State.awningMove_released tag ready fits taken away (towards.trans (if_pos shut.1)) shut.2
      exact ⟨t, next, reply, by rw [if_pos shut]; exact ⟨ended, off, stays.trans known, rest⟩⟩
    · obtain ⟨t, next, reply, way⟩ :=
        State.awningMove_drives tag ready fits taken away (by rw [towards, outward_iff]; exact shut)
      rw [towards] at way
      exact ⟨t, next, reply, by rw [if_neg shut]; exact way⟩
  · intro s tag goal ready present frozen st causes op target far
    obtain ⟨away, towards⟩ := State.awningFreed_seeks target far
    by_cases shut : s.fe.awningCount.handed < goal ∧ s.inputs.parkSet.level = false
    · by_cases quiet : s.aw.pendingStow = none
      · obtain ⟨t, next, reply, thawed, ends⟩ :=
          State.resume_released tag ready present frozen st causes away (towards.trans (if_pos shut.1)) shut.2 quiet
        exact ⟨t, next, reply, thawed, by rw [if_pos shut]; exact fun _ => ends⟩
      · have taken := State.onResume_awning s present frozen
        obtain ⟨l, next, reply, thawed⟩ := State.resumeAwning_next tag ready taken (by simp [State.awningThawed])
          (State.freeze_unfreezeOp s.awningThawed)
        exact ⟨_, next, reply, thawed, by rw [if_pos shut]; exact fun none => absurd none quiet⟩
    · obtain ⟨t, next, reply, thawed, way⟩ := State.resume_drives tag ready present frozen st causes op away
        (by rw [towards, outward_iff]; exact shut)
      rw [towards] at way
      exact ⟨t, next, reply, thawed, by rw [if_neg shut]; exact way⟩

end Sys2Proof.Machine
end

section
/-!
PROOFS. The stow that begins, the stow that waits, and the lockout key off that takes it up (O43).
-/

namespace Sys2Proof.Machine

open Sys2Proof

variable (s : State)

/-! ## A stow begins (R94) -/

/-- The awning's stow as it is taken, before it asks for its grant. -/
def State.stowTaken (s : State) (c : StowCause) : State :=
  (s.clearPeaks .awning).modAw fun a => { a with
    st := .work .stowing, op := .stow, target := .inn, extend := false, causes := .none, stowCause := some c
    pendingStow := none, cap := s.awningCapture, waitLeft := none, suspLeft := none, runMs := 0 }

/-- The grant of a stow (R109). -/
def State.stowGrant (s : State) : Grant := { holder := .awning, cls := .stow, draw := s.awningCapture.draw }

theorem State.beginStow_eq (c : StowCause) :
    s.beginStow c = (s.stowTaken c).settled ((s.stowTaken c).requestStow s.awningCapture.draw).enterStowing := rfl

/-- Off its switch the stow retracts at 100 % (R94). -/
theorem State.enterStowing_out (out : s.stowed = false) :
    s.enterStowing.aw = { s.aw with st := .work .stowing, endPos := .unknown }
      ∧ (s.enterStowing.chan .awning).mode = .driven .second 100 ∧ s.enterStowing.arb = s.arb ∧ s.enterStowing.sa = s.sa := by
  let u := s.modAw fun a => { a with st := .work .stowing }
  have eq : s.enterStowing = (u.drive .awning .second 100).modAw fun a => { a with endPos := .unknown } :=
    if_neg (by rw [show u.stowed = false from out]; exact Bool.false_ne_true)
  have motor : ((u.drive .awning .second 100).chan .awning).mode = .driven .second 100 := by
    rw [State.drive_chan_same, Channel.commanded_mode]
  rw [eq]
  exact ⟨rfl, motor, rfl, rfl⟩

/-- The room that a stow's request makes takes nothing of an awning that holds nothing (R109). -/
theorem State.requestStow_spec (draw : Nat) (holds : s.holds .awning = false) :
    (s.requestStow draw).aw = s.aw ∧ (s.requestStow draw).sa.records.get .awning = s.sa.records.get .awning
      ∧ (s.requestStow draw).sa.groups.get .awning = s.sa.groups.get .awning
      ∧ (s.requestStow draw).waits .awning = s.waits .awning
      ∧ { holder := .awning, cls := .stow, draw := draw } ∈ (s.requestStow draw).arb.grants := by
  have same := State.view_suspendUntil (g := .awning) s draw s.arb.grants.length holds
  exact ⟨(State.aw_of_view same :), (State.record_of_view same :), (State.joined_of_view same :), (State.waits_of_view same :),
    List.mem_append_right _ (List.mem_singleton_self _)⟩

/-- What stands once a stow has begun (R94, R109). -/
structure State.StowBegun (s : State) (c : StowCause) (t : State) : Prop where
  aw : t.aw = { (s.stowTaken c).aw with endPos := .unknown }
  motor : (t.chan .awning).mode = .driven .second 100
  grant : s.stowGrant ∈ t.arb.grants
  record : t.sa.records.get .awning = s.sa.records.get .awning
  joined : t.sa.groups.get .awning = s.sa.groups.get .awning

/-- A stow of an awning at rest off its switch (R94). -/
theorem State.beginStow_spec (c : StowCause) (out : s.stowed = false) (holds : s.holds .awning = false)
    (waits : s.waits .awning = false) : s.StowBegun c (s.beginStow c) := by
  obtain ⟨u, taken⟩ : ∃ u, s.stowTaken c = u := ⟨_, rfl⟩
  have before : u.holds .awning = false ∧ u.waits .awning = false ∧ u.sa = s.sa ∧ u.stowed = false := by
    subst taken; exact ⟨holds, waits, rfl, out⟩
  obtain ⟨free, alone, sa, unstowed⟩ := before
  obtain ⟨r, asked⟩ : ∃ r, u.requestStow s.awningCapture.draw = r := ⟨_, rfl⟩
  obtain ⟨aw, record, joined, waiting, grant⟩ := State.requestStow_spec u s.awningCapture.draw free
  have away : r.stowed = false := by rw [← asked, State.stowed_of_still (State.still_requestStow u _), unstowed]
  rw [asked] at aw record joined waiting grant
  obtain ⟨after, motor, arb, flags⟩ := State.enterStowing_out r away
  have nobody : r.enterStowing.waits .awning = false := by rw [State.waits, arb]; exact waiting.trans alone
  have view := State.view_settled u r.enterStowing nobody
  rw [State.beginStow_eq, taken, asked]
  have stowing : u.aw.st = .work .stowing := by subst taken; rfl
  refine ⟨?_, ?_, ?_, ?_, ?_⟩
  · rw [State.aw_of_view view, after, aw, taken, ← stowing]
  · rw [State.chan_of_view view .awning rfl, motor]
  · exact State.mem_grants_settled u r.enterStowing (x := s.stowGrant) nobody (by rw [arb]; exact grant)
  · rw [State.record_of_view view, flags, record, sa]
  · rw [State.joined_of_view view, flags, joined, sa]

@[simp] theorem State.alarm_beginStow (c : StowCause) : (s.beginStow c).alarm = s.alarm := by
  rw [State.beginStow_eq, State.alarm_settled, State.alarm_of_outside (State.outside_enterStowing _)]
  exact State.alarm_suspendUntil (s.stowTaken c) _ _

/-! ## A pending stow is taken up (R95) -/

theorem State.takeUpStow_pending {c : StowCause} (pending : s.aw.pendingStow = some c) :
    s.takeUpStow = if !s.stowHeld && decide (s.aw.st = .idle) && s.usable .awning then
      (if s.stowed then s.setPending none else s.beginStow c) else s := by
  unfold State.takeUpStow
  split
  · next none => exact absurd (none.symm.trans pending) (Option.some_ne_none c).symm
  · next d found =>
      obtain rfl : c = d := Option.some.inj (pending.symm.trans found)
      rfl

/-- Nothing holds a stow back: neither the key, nor the freeze set, nor an operation or a test, nor channel 19 (R92, R95). -/
theorem State.stowFree_iff : (!s.stowHeld && decide (s.aw.st = .idle) && s.usable .awning) = true
    ↔ s.inputs.keyOff.level = true ∧ s.frozen .awning = false ∧ s.aw.st = .idle ∧ s.usable .awning = true := by
  simp [State.stowHeld, State.keyOn, and_assoc]

/-- The row of a key that goes off (R15, R95). -/
theorem State.lockoutKeyOff_row (awake : s.power = .awake) (level : s.inputs.keyOff.level = false)
    (run : 5 ≤ s.inputs.keyOff.run) :
    exec .lockoutKeyOff s = .next (s.setInputs { s.inputs with
      keyOff := { level := true, latch := s.inputs.keyOff.latch, run := 0 } }).takeUpStow.kick := by
  have off : s.inputs.keyOff.becomesLow true = { level := true, latch := s.inputs.keyOff.latch, run := 0 } := by
    rw [InputLine.becomesLow, Bool.and_true]
  have row : exec .lockoutKeyOff s = s.ifOn (s.changeInput (s.inputs.keyOff.changes true)
      { s.inputs with keyOff := s.inputs.keyOff.becomesLow true } State.takeUpStow) := rfl
  rw [row, off, State.ifOn_on s _ (by simp [awake]), State.changeInput, if_pos (InputLine.changes_of level run),
    if_pos awake]

/-- Settles O43: the key off takes up a stow that nothing else holds back. -/
theorem keyOffTakesUpTheStow : Obligations.KeyOffTakesUpTheStow := by
  unfold Obligations.KeyOffTakesUpTheStow
  intro s awake level run line u
  have row : exec .lockoutKeyOff s = .next u.takeUpStow.kick := State.lockoutKeyOff_row s awake level run
  refine ⟨fun none => ?_, fun pending idle thawed usable stowed => ?_, fun c pending idle thawed usable out rest => ?_,
    fun c pending held => ?_⟩
  · rw [row, State.takeUpStow_busy u (.inl none)]
  · obtain ⟨c, pending⟩ := Option.ne_none_iff_exists'.mp pending
    rw [row, State.takeUpStow_pending u pending, if_pos ((State.stowFree_iff u).mpr ⟨rfl, thawed, idle, usable⟩),
      if_pos (show u.stowed = true from stowed)]
    rfl
  · obtain ⟨-, holds, waits⟩ := rest
    have begun := State.beginStow_spec u c out holds waits
    obtain ⟨l, kick, -⟩ := State.kick_link (u.beginStow c)
    rw [State.takeUpStow_pending u pending, if_pos ((State.stowFree_iff u).mpr ⟨rfl, thawed, idle, usable⟩),
      if_neg (by rw [show u.stowed = false from out]; exact Bool.false_ne_true), kick] at row
    exact ⟨_, row, (congrArg Awning.st begun.aw :), (congrArg Awning.op begun.aw :), (congrArg Awning.stowCause begun.aw :),
      (congrArg Awning.pendingStow begun.aw :), (congrArg Awning.endPos begun.aw :), (congrArg Awning.runMs begun.aw :),
      (congrArg Awning.cap begun.aw :), begun.motor, begun.grant⟩
  · rw [row, State.takeUpStow_pending u pending, if_neg]
    rw [State.stowFree_iff]
    rintro ⟨-, thawed, idle, usable⟩
    rcases held with busy | frozen | broken
    · exact busy idle
    · exact Bool.false_ne_true (thawed.symm.trans frozen)
    · exact Bool.false_ne_true (broken.symm.trans usable)

end Sys2Proof.Machine
end

section
/-!
PROOFS. The wind monitor at a window: the ring, the wind condition and the lockout (R90, R91).
-/

namespace Sys2Proof.Machine

open Sys2Proof

/-- A ring of 12 with one value more keeps the last 12. -/
theorem pushRing_twelve (l : List Int) (x : Int) : pushRing 12 l x = (l ++ [x]).drop ((l ++ [x]).length - 12) := by
  rw [pushRing, List.length_append, List.length_singleton, List.drop_append_of_le_length (by omega)]

theorem Wind.window_eq (w : Wind) (x : Int) :
    let ring := (w.ring ++ [x]).drop ((w.ring ++ [x]).length - 12)
    w.window x = { w with
      ring := ring, gust := x, sustained := if ring.length = 12 then some (ring.sum / 12) else none } := by
  rw [← pushRing_twelve]
  rfl

section
variable (w : Wind) (a : AwningRun)

theorem Wind.condition_iff :
    w.condition a = true ↔ a.gustStow ≤ w.gust ∨ ∃ x, w.sustained = some x ∧ a.sustainedStow ≤ x := by
  cases defined : w.sustained <;> simp [Wind.condition, defined]

/-- The lockout comes on with its captured time and a quiet count of 0 (R91). -/
theorem Wind.lock_comes (blows : w.condition a = true) (off : w.lockout = false) :
    w.lock a = { w with lockout := true, quiet := 0, lockTime := a.lockoutTime.toNat } := by simp [Wind.lock, blows, off]

/-- Under lockout the wind condition leaves the quiet count and the captured time (R91, notes 20). -/
theorem Wind.lock_stays (blows : w.condition a = true) (on : w.lockout = true) : w.lock a = w := by
  simp [Wind.lock, blows, on]

theorem Wind.lock_calm (calm : w.condition a = false) (off : w.lockout = false) : w.lock a = w := by
  simp [Wind.lock, calm, off]

theorem Wind.lock_counts (calm : w.condition a = false) (on : w.lockout = true) :
    w.lock a = { w with quiet := w.quietAfter a } := by simp [Wind.lock, calm, on]

/-- The lockout is no matter of the values of a window. -/
theorem Wind.lock_values :
    (w.lock a).ring = w.ring ∧ (w.lock a).gust = w.gust ∧ (w.lock a).sustained = w.sustained := by
  unfold Wind.lock
  repeat' split
  all_goals exact ⟨rfl, rfl, rfl⟩

theorem Wind.quietAfter_undefined (none : w.sustained = none) : w.quietAfter a = w.quiet := by
  rw [Wind.quietAfter, none]

/-- Below the count that ends the lockout a quiet window adds one, and any other starts again (R91). -/
theorem Wind.quietAfter_defined {x : Int} (defined : w.sustained = some x) (room : w.quiet < w.lockTime * 4) :
    w.quietAfter a = if x < a.release then w.quiet + 1 else 0 := by
  rw [Wind.quietAfter, defined]
  have fits : min (w.quiet + 1) (max w.quiet (w.lockTime * 4)) = w.quiet + 1 := by omega
  simp only [fits]

end

variable (s : State)

/-! ## A window (R90) -/

/-- The state with the values of a window computed (R90). -/
def State.windRead (s : State) : State :=
  { s with wind := s.wind.window s.windSpeed, fe := { s.fe with pulses := 0 } }

/-- The state with the lockout after a window (R91). -/
def State.windLocked (s : State) : State := { s with wind := s.wind.lock s.store.active.awningRun }

/-- The state after the watches of a window (R130). -/
def State.windWatched (s : State) : State := s.windRead.watchSample s.windRead .windOnly

theorem State.windWindow_eq : s.windWindow
    = if s.windWatched.wind.condition s.windWatched.store.active.awningRun then
        s.windWatched.windLocked.windBlows
          (!s.windWatched.wind.lockout && s.windWatched.wind.condition s.windWatched.store.active.awningRun)
      else s.windWatched.windLocked := rfl

@[simp] theorem State.still_windBlows (came : Bool) : (s.windBlows came).still = s.still := by
  unfold State.windBlows
  dsimp only
  split <;> split <;> simp

/-- The watches and the stow of a window leave what motion cannot touch as the window found it. -/
theorem State.still_windWindow : s.windWindow.still = s.windRead.windLocked.still := by
  have locked : ∀ u : State,
      u.windLocked.still = { u.still with wind := u.still.wind.lock u.still.store.active.awningRun } := fun _ => rfl
  have watched : s.windWatched.still = s.windRead.still := State.still_watchSample _ _ _
  have out : s.windWindow.still = s.windWatched.windLocked.still := by
    rw [State.windWindow_eq]
    split <;> simp
  rw [out, locked, locked, watched]

/-- Whether the window of `s` has the wind condition (R91). -/
def State.windCondition (s : State) : Bool := (s.wind.window s.windSpeed).condition s.store.active.awningRun

theorem State.windWindow_blows (blows : s.windCondition = true) :
    s.windWindow = s.windWatched.windLocked.windBlows (!s.wind.lockout) := by
  have watched : s.windWatched.still = s.windRead.still := State.still_watchSample _ _ _
  have wind : s.windWatched.wind = s.wind.window s.windSpeed := congrArg Still.wind watched
  have run : s.windWatched.store.active.awningRun = s.store.active.awningRun :=
    congrArg (fun x : Still => x.store.active.awningRun) watched
  have holds : (s.wind.window s.windSpeed).condition s.store.active.awningRun = true := blows
  rw [State.windWindow_eq, wind, run, holds, if_pos rfl, Bool.and_true]
  rfl

/-- With every unit disabled the watches do nothing (R130). -/
theorem State.watchSample_disabled (brought : State) (f : Fresh)
    (disabled : ∀ u ∈ s.guard.watches, u.contents.enabled = false) : s.watchSample brought f = s := by
  have unit : ∀ i, State.watchUnit brought f s i = s := by
    intro i
    unfold State.watchUnit
    split
    · next u found =>
        have off := disabled u (List.mem_of_getElem? found)
        simp [State.unitFires, off]
    · rfl
  simp only [State.watchSample, List.foldl_cons, List.foldl_nil, unit]

/-! ## SUPERVISION (R91, R157) -/

theorem State.joinWind_spec :
    ∃ (sa : StanceAttention) (b : Bool),
      s.joinSupervision SupCauses.addWind = { s with sa := sa, link := { s.link with notice := b } }
        ∧ sa.records = s.sa.records ∧ sa.groups = s.sa.groups ∧ sa.supervision = true ∧ sa.causes.wind = true := by
  unfold State.joinSupervision
  split
  · next member => exact ⟨_, s.link.notice, rfl, rfl, rfl, member, rfl⟩
  · exact ⟨_, true, rfl, rfl, rfl, rfl, rfl⟩

@[simp] theorem State.alarm_endAwning (reason : Reason) : (s.endAwning reason).alarm = s.alarm :=
  State.alarm_of_outside (State.outside_endAwning s reason)

@[simp] theorem State.alarm_pendStow (c : StowCause) : (s.pendStow c).alarm = s.alarm := by
  unfold State.pendStow
  split <;> rfl

@[simp] theorem State.alarm_stowIdle (c : StowCause) : (s.stowIdle c).alarm = s.alarm := by
  unfold State.stowIdle
  repeat' split
  all_goals simp

@[simp] theorem State.alarm_stowDue (c : StowCause) : (s.stowDue c).alarm = s.alarm := by
  unfold State.stowDue
  split
  · cases c <;> rfl
  · split
    · simp
    · split <;> simp

/-- At a wind condition SUPERVISION is in the set, and WIND among its causes (R91). -/
theorem State.windBlows_alarm (came : Bool) :
    (s.windBlows came).sa.supervision = true ∧ (s.windBlows came).sa.causes.wind = true := by
  obtain ⟨sa, b, eq, -, -, member, wind⟩ := State.joinWind_spec s
  have kept : (s.windBlows came).alarm = (s.joinSupervision SupCauses.addWind).alarm := by
    unfold State.windBlows
    dsimp only
    split <;> split <;> simp
  rw [eq] at kept
  exact ⟨(congrArg Prod.fst kept).trans member, (congrArg (fun p => p.2.wind) kept).trans wind⟩

end Sys2Proof.Machine
end

section
/-!
PROOFS. The stow that the wind makes due, and the wind window as a whole (O52).
-/

namespace Sys2Proof.Machine

open Sys2Proof

variable (s : State)

/-! ## A wind stow is due (R92) -/

theorem State.stowHeld_iff : s.stowHeld = true ↔ s.inputs.keyOff.level = false ∨ s.frozen .awning = true := by
  simp [State.stowHeld, State.keyOn]

theorem State.pendStow_wind : s.pendStow .wind = s.setPending (some .wind) := rfl

theorem State.stowIdle_held (held : s.stowHeld = true) : s.stowIdle .wind = s.setPending (some .wind) := by
  rw [State.stowIdle, if_pos held, State.pendStow_wind]

theorem State.stowIdle_free (free : ¬ s.stowHeld = true) (usable : s.usable .awning = true) :
    s.stowIdle .wind = s.beginStow .wind := by
  rw [State.stowIdle, if_neg free, if_pos usable]

/-- With channel 19 unusable at most the pending stow changes (R92, notes 22). -/
theorem State.stowIdle_unusable (free : ¬ s.stowHeld = true) (broken : ¬ s.usable .awning = true) :
    ∃ p, s.stowIdle .wind = s.setPending p := by
  rw [State.stowIdle, if_neg free, if_neg broken]
  split
  · exact ⟨_, State.pendStow_wind s⟩
  · exact ⟨s.aw.pendingStow, rfl⟩

/-- Where nothing holds it back the wind stow of `s` has begun in `t` (R92, R94). -/
def State.windStowBegins (s t : State) : Prop :=
  s.inputs.keyOff.level = true ∧ s.frozen .awning = false ∧ s.usable .awning = true →
    t.aw.st = .work .stowing ∧ t.aw.stowCause = some .wind ∧ t.aw.pendingStow = none
      ∧ (t.chan .awning).mode = .driven .second 100
      ∧ { holder := .awning, cls := .stow, draw := s.awningCapture.draw } ∈ t.arb.grants

/-- Under the key or in the freeze set the wind stow of `s` waits in `t` (R92). -/
def State.windStowPends (s t : State) : Prop :=
  s.inputs.keyOff.level = false ∨ s.frozen .awning = true →
    t.aw.st = .idle ∧ t.aw.pendingStow = some .wind ∧ t.driven .awning = false

/-- A wind stow that finds no operation (R92). -/
theorem State.stowIdle_wind (out : s.stowed = false) (idle : s.aw.st = .idle) (holds : s.holds .awning = false)
    (waits : s.waits .awning = false) :
    (s.stowIdle .wind).aw.moving = false ∧ (s.stowIdle .wind).sa.records.get .awning = s.sa.records.get .awning
      ∧ (s.stowIdle .wind).sa.groups.get .awning = s.sa.groups.get .awning ∧ s.windStowBegins (s.stowIdle .wind)
      ∧ (s.driven .awning = false → s.windStowPends (s.stowIdle .wind)) := by
  have pends : ∀ p, (s.setPending p).aw.moving = false := fun p => by
    simp [State.setPending, Awning.moving, idle, AwningState.work?]
  by_cases held : s.stowHeld = true
  · rw [State.stowIdle_held s held]
    refine ⟨pends _, rfl, rfl, fun ⟨key, thawed, _⟩ => ?_, fun still _ => ⟨idle, rfl, still⟩⟩
    rcases (State.stowHeld_iff s).mp held with on | frozen
    · exact absurd (key.symm.trans on) (by simp)
    · exact absurd (thawed.symm.trans frozen) (by simp)
  · have free : s.windStowPends (s.stowIdle .wind) := fun h => absurd ((State.stowHeld_iff s).mpr h) held
    by_cases usable : s.usable .awning = true
    · have begun := State.beginStow_spec s .wind out holds waits
      rw [← State.stowIdle_free s held usable] at begun
      obtain ⟨aw, motor, grant, record, joined⟩ := begun
      refine ⟨by rw [aw]; rfl, record, joined, fun _ => ⟨by rw [aw]; rfl, by rw [aw]; rfl, by rw [aw]; rfl, motor, grant⟩,
        fun _ => free⟩
    · obtain ⟨p, eq⟩ := State.stowIdle_unusable s held usable
      refine ⟨by rw [eq]; exact pends p, by rw [eq]; rfl, by rw [eq]; rfl, fun h => absurd h.2.2 usable, fun _ => free⟩

theorem State.stowDue_idle (idle : s.aw.st = .idle) : s.stowDue .wind = s.stowIdle .wind := by
  simp [State.stowDue, Awning.stowing, Awning.moving, idle, AwningState.work?]

theorem State.stowDue_testing (testing : s.aw.st = .testing) : s.stowDue .wind = s.setPending (some .wind) := by
  simp [State.stowDue, Awning.stowing, Awning.moving, testing, AwningState.work?, State.pendStow_wind]

theorem State.stowDue_stowing (stow : s.aw.stowing = true) :
    s.stowDue .wind = s.modAw fun a => { a with stowCause := some .wind } := by
  rw [State.stowDue, if_pos stow, State.recauseStow]

theorem State.stowDue_moving (moves : s.aw.moving = true) :
    s.stowDue .wind = (s.settled (s.endAwning .wind)).stowIdle .wind := by
  have rest : ¬ s.aw.stowing = true := by simp [((Awning.moving_iff _).mp moves).2]
  rw [State.stowDue, if_neg rest, if_pos moves, StowCause.endReason]

/-- What holds a stow back, and what it captures, is nothing that an end of an operation changes. -/
theorem State.windStow_of_still {u t : State} (still : u.still = s.still) (freeze : u.guard.freeze = s.guard.freeze) :
    (u.windStowBegins t → s.windStowBegins t) ∧ (u.windStowPends t → s.windStowPends t) := by
  have inputs : u.inputs = s.inputs := congrArg Still.inputs still
  have health : u.health = s.health := congrArg Still.health still
  have store : u.store = s.store := congrArg Still.store still
  simp only [State.windStowBegins, State.windStowPends, State.frozen, State.usable, State.awningCapture, inputs, health,
    store, freeze, imp_self, and_self]

/-- A wind stow that ends a MOVE or Home first (R92). -/
theorem State.stowDue_ends (out : s.stowed = false) (present : s.straps.awning = true) (moves : s.aw.moving = true) :
    (s.stowDue .wind).aw.moving = false ∧ s.windStowBegins (s.stowDue .wind) ∧ s.windStowPends (s.stowDue .wind)
      ∧ (s.stowDue .wind).sa.groups.awning = true
      ∧ ∃ e, (s.stowDue .wind).sa.records.get .awning = some e ∧ e.op = s.aw.op.operation ∧ e.reason = .wind := by
  obtain ⟨work, -⟩ := (Awning.moving_iff _).mp moves
  have still : (s.settled (s.endAwning .wind)).still = s.still := by simp
  have freeze : (s.settled (s.endAwning .wind)).guard.freeze = s.guard.freeze :=
    (State.freeze_settled s _).trans (State.freeze_of_others fun g n => State.view_endAwning s n .wind)
  obtain ⟨idle, holds, waits, e, ⟨record, -⟩, reason, op⟩ := State.settled_closed s (State.endAwning_closed s .wind work)
  obtain ⟨⟨-, -, joins⟩, off, -⟩ := State.settled_over s (State.endGroup_over s (g := .awning) .wind work)
  rw [State.stowDue_moving s moves]
  obtain ⟨u, ended⟩ : ∃ u, s.settled (s.endAwning .wind) = u := ⟨_, rfl⟩
  rw [show s.endGroup .awning .wind = s.endAwning .wind from rfl] at joins off
  rw [ended] at still freeze idle holds waits record joins off ⊢
  obtain ⟨rests, kept, member, begins, pends⟩ :=
    State.stowIdle_wind u (by rw [State.stowed_of_still still, out]) idle holds waits
  obtain ⟨begins', pends'⟩ := State.windStow_of_still s (t := u.stowIdle .wind) still freeze
  refine ⟨rests, begins' begins, pends' (pends (off .awning rfl)), member.trans (joins ?_), e, kept.trans record, op, reason⟩
  rw [State.straps_of_still still]
  exact present

/-! ## The awning at a wind condition (R91, R92, R120) -/

/-- An extension still at its switch ends as the lockout comes on (R120). -/
theorem State.windBlows_atSwitch (stowed : s.stowed = true) (extending : s.awningExtending = true) :
    s.windBlows true = (s.joinSupervision SupCauses.addWind).settled
      ((s.joinSupervision SupCauses.addWind).endAwning .wind) := by
  have on : (s.joinSupervision SupCauses.addWind).stowed = true := (State.stowed_of_still (by simp)).trans stowed
  have moves : (s.joinSupervision SupCauses.addWind).awningExtending = true := by simpa [State.awningExtending] using extending
  unfold State.windBlows
  simp [on, moves]

/-- What a wind condition makes of the awning of `s` off its switch: `t` (R92). -/
def State.windStows (s t : State) : Prop :=
  (s.aw.st = .idle → s.atRest .awning →
      s.windStowBegins t ∧ (s.driven .awning = false → s.windStowPends t))
    ∧ (s.aw.moving = true → s.windStowBegins t ∧ s.windStowPends t ∧ t.sa.groups.awning = true
        ∧ ∃ e, t.sa.records.get .awning = some e ∧ e.op = s.aw.op.operation ∧ e.reason = .wind)
    ∧ (s.aw.stowing = true → t.aw.st = s.aw.st ∧ t.aw.stowCause = some .wind ∧ t.aw.pendingStow = s.aw.pendingStow
        ∧ t.chan .awning = s.chan .awning ∧ t.arb = s.arb)
    ∧ (s.aw.st = .testing → t.aw.st = .testing ∧ t.aw.pendingStow = some .wind ∧ t.chan .awning = s.chan .awning
        ∧ t.arb = s.arb)

/-- The awning off its switch does what the stow that is due does. -/
theorem State.windBlows_out (came : Bool) (out : s.stowed = false)
    (rests : ((s.joinSupervision SupCauses.addWind).stowDue .wind).aw.moving = false) :
    s.windBlows came = (s.joinSupervision SupCauses.addWind).stowDue .wind := by
  have off : (s.joinSupervision SupCauses.addWind).stowed = false := (State.stowed_of_still (by simp)).trans out
  unfold State.windBlows
  simp [off, State.awningExtending, rests]

/-- The stow that is due, by the state of the awning. -/
theorem State.windBlows_windStows (came : Bool) (out : s.stowed = false) (present : s.straps.awning = true) :
    s.windStows (s.windBlows came) := by
  obtain ⟨v, joined⟩ : ∃ v, s.joinSupervision SupCauses.addWind = v := ⟨_, rfl⟩
  have blows : (v.stowDue .wind).aw.moving = false → s.windBlows came = v.stowDue .wind := fun rests => by
    rw [← joined] at rests ⊢
    exact State.windBlows_out s came out rests
  have still : v.still = s.still := by simp [← joined]
  have same : v.aw = s.aw ∧ v.arb = s.arb ∧ v.ch = s.ch ∧ v.guard.freeze = s.guard.freeze := by simp [← joined]
  obtain ⟨aw, arb, ch, freeze⟩ := same
  have off : v.stowed = false := (State.stowed_of_still still).trans out
  have driven : v.driven .awning = s.driven .awning := by rw [State.driven, State.chan_of_ch ch]; rfl
  obtain ⟨begins, pends⟩ := State.windStow_of_still s (t := s.windBlows came) still freeze
  refine ⟨fun idle rest => ?_, fun moves => ?_, fun stow => ?_, fun testing => ?_⟩
  · obtain ⟨-, holds, waits⟩ := rest
    have idle' : v.aw.st = .idle := by rw [aw, idle]
    obtain ⟨rests, -, -, begun, waiting⟩ := State.stowIdle_wind v off idle' (by rw [State.holds, arb]; exact holds)
      (by rw [State.waits, arb]; exact waits)
    rw [← State.stowDue_idle v idle'] at rests begun waiting
    rw [← blows rests] at begun waiting
    exact ⟨begins begun, fun quiet => pends (waiting (driven.trans quiet))⟩
  · obtain ⟨rests, begun, waiting, member, e, record, op, reason⟩ :=
      State.stowDue_ends v off (by rw [State.straps_of_still still, present]) (by rw [aw, moves])
    rw [← blows rests] at begun waiting member record
    exact ⟨begins begun, pends waiting, member, e, record, by rw [op, aw], reason⟩
  · have due := State.stowDue_stowing v (by rw [aw, stow])
    have rests : (v.stowDue .wind).aw.moving = false := by
      rw [due]
      exact Awning.moving_of_stowing (by rw [State.modAw_aw, aw]; exact stow)
    rw [blows rests, due]
    exact ⟨(congrArg Awning.st aw :), rfl, (congrArg Awning.pendingStow aw :), State.chan_of_ch ch .awning, arb⟩
  · have due := State.stowDue_testing v (by rw [aw, testing])
    have st : (v.setPending (some .wind)).aw.st = .testing := (congrArg Awning.st aw).trans testing
    rw [blows (by rw [due, Awning.moving, st]; rfl), due]
    exact ⟨st, rfl, State.chan_of_ch ch .awning, arb⟩

theorem State.windStows_sent {t : State} (l : Link) (stows : s.windStows t) : s.windStows { t with link := l } := stows

/-! ## The window (R90) -/

/-- The state at the end of the interval of a window. -/
def State.windDue (s : State) : State := (s.pass s.clock.wind).setClock { (s.pass s.clock.wind).clock with wind := 250 }

/-- The row of a window: the time left to it passes, and the next begins. -/
theorem State.windWindow_row (present : s.straps.awning = true) :
    exec .windWindow s = s.ifAwake s.windDue.windWindow := by
  show s.ifAwake (if s.straps.awning then s.windDue.windWindow else s) = _
  rw [if_pos present]

/-- The state in which a window finds the awning: its values computed and the lockout set. -/
def State.atWindow (s : State) : State := s.windDue.windRead.windLocked

/-- With every unit disabled a window with the wind condition makes the stow due at once (R92, R130). -/
theorem State.windDue_blows (blows : s.windDue.windCondition = true)
    (disabled : ∀ u ∈ s.guard.watches, u.contents.enabled = false) :
    s.windDue.windWindow = s.atWindow.windBlows (!s.wind.lockout) := by
  rw [State.windWindow_blows _ blows, State.windWatched,
    State.watchSample_disabled s.windDue.windRead s.windDue.windRead .windOnly disabled]
  rfl

/-- The time that passes and the values of the window are nothing to the awning. -/
theorem State.atWindow_windStows {t : State} (stows : s.atWindow.windStows t) : s.windStows t := stows

/-- At a window with the wind condition SUPERVISION is in the set, with WIND among its causes (R91). -/
theorem State.windDue_alarm (blows : s.windDue.windCondition = true) :
    s.windDue.windWindow.sa.supervision = true ∧ s.windDue.windWindow.sa.causes.wind = true := by
  rw [State.windWindow_blows _ blows]
  exact State.windBlows_alarm _ _

/-- A window with the wind condition, on an awning off its switch with every unit disabled. -/
theorem State.windDue_windStows (present : s.straps.awning = true) (blows : s.windDue.windCondition = true)
    (disabled : ∀ u ∈ s.guard.watches, u.contents.enabled = false) (out : s.stowed = false) :
    s.windStows s.windDue.windWindow := by
  rw [State.windDue_blows s blows disabled]
  exact State.atWindow_windStows s (State.windBlows_windStows s.atWindow _ out present)

/-- A window that brings the lockout on ends an extension that has not left its switch (R120). -/
theorem State.windDue_atSwitch (blows : s.windDue.windCondition = true)
    (disabled : ∀ u ∈ s.guard.watches, u.contents.enabled = false) (stowed : s.stowed = true)
    (off : s.wind.lockout = false) (moves : s.aw.moving = true) (extending : s.aw.extend = true) :
    s.windDue.windWindow.overWith .awning .wind := by
  have extends' : s.atWindow.awningExtending = true := by
    show (s.aw.moving && s.aw.extend) = true
    rw [moves, extending]
    rfl
  have work : s.atWindow.working .awning := ((Awning.moving_iff _).mp moves).1
  have work' : (s.atWindow.joinSupervision SupCauses.addWind).working .awning := by simpa [State.working] using work
  rw [State.windDue_blows s blows disabled, off, Bool.not_false, State.windBlows_atSwitch s.atWindow stowed extends']
  exact State.settled_over _ (State.endGroup_over _ (g := .awning) .wind work')

/-- Settles O52: the values of a window, the lockout, and the stow that is due. -/
theorem windWatched : Obligations.WindWatched := by
  unfold Obligations.WindWatched
  intro s awake run gust speeds ring sustained blows
  refine ⟨fun present => ?_, fun on quiet => ?_⟩
  · obtain ⟨l, next, -⟩ := State.awake_next s awake s.windDue.windWindow
    have still := State.still_windWindow s.windDue
    obtain ⟨w, read⟩ : ∃ w, s.wind.window s.windDue.windSpeed = w := ⟨_, rfl⟩
    have values : w = { s.wind with ring := ring, gust := gust, sustained := sustained } :=
      read.symm.trans (Wind.window_eq s.wind gust)
    have condition : w.condition run = s.windDue.windCondition := by rw [← read]; rfl
    have blowing : s.windDue.windCondition = true ↔ blows := by
      rw [← condition, Wind.condition_iff, values]
    have calm : ¬ blows → w.condition run = false := fun no => by
      rw [condition]
      exact eq_false_of_ne_true fun yes => no (blowing.mp yes)
    have wind : s.windDue.windWindow.wind = w.lock run := by
      rw [← read]
      exact congrArg Still.wind still
    have lockout : w.lockout = s.wind.lockout := by rw [values]
    have lockTime : w.lockTime = s.wind.lockTime := by rw [values]
    have count : w.quiet = s.wind.quiet := by rw [values]
    obtain ⟨rings, gusts, means⟩ := Wind.lock_values w run
    rw [← wind] at rings gusts means
    have comes : s.wind.lockout = false → blows → s.windDue.windWindow.wind
        = { w with lockout := true, quiet := 0, lockTime := run.lockoutTime.toNat } := fun off yes => by
      rw [wind, Wind.lock_comes w run (condition.trans (blowing.mpr yes)) (lockout.trans off)]
    have stays : s.wind.lockout = true → blows → s.windDue.windWindow.wind = w := fun on yes => by
      rw [wind, Wind.lock_stays w run (condition.trans (blowing.mpr yes)) (lockout.trans on)]
    have rests : s.wind.lockout = false → ¬ blows → s.windDue.windWindow.wind = w := fun off no => by
      rw [wind, Wind.lock_calm w run (calm no) (lockout.trans off)]
    have counts : s.wind.lockout = true → ¬ blows → s.windDue.windWindow.wind = { w with quiet := w.quietAfter run } :=
      fun on no => by rw [wind, Wind.lock_counts w run (calm no) (lockout.trans on)]
    refine ⟨_, (State.windWindow_row s present).trans next, (congrArg (fun x : Still => x.clock.wind) still :),
      (congrArg Still.pulses still :), rings.trans (congrArg Wind.ring values), gusts.trans (congrArg Wind.gust values),
      means.trans (congrArg Wind.sustained values), fun off yes => ?_, fun on yes => ?_, fun yes => State.windDue_alarm s (blowing.mpr yes),
      fun off no => ?_, fun on no room => ?_, fun yes disabled => ⟨fun out => ?_, fun stowed off moves extending => ?_⟩⟩
    · dsimp only
      rw [comes off yes]
      exact ⟨rfl, rfl, rfl⟩
    · dsimp only
      rw [stays on yes]
      exact ⟨lockout.trans on, count, lockTime⟩
    · dsimp only
      rw [rests off no]
      exact ⟨lockout.trans off, count, lockTime⟩
    · dsimp only
      rw [counts on no]
      refine ⟨lockout.trans on, lockTime, ?_⟩
      have mean : w.sustained = sustained := congrArg Wind.sustained values
      rw [← mean, ← count]
      cases defined : w.sustained with
      | none => exact Wind.quietAfter_undefined w run defined
      | some x => exact Wind.quietAfter_defined w run defined (by rw [count, lockTime]; exact room)
    · exact State.windStows_sent s l (State.windDue_windStows s present (blowing.mpr yes) disabled out)
    · exact (State.windDue_atSwitch s (blowing.mpr yes) disabled stowed off moves extending).sent l
  · have row : exec .windLockoutOff s = s.ifAwake (if s.wind.lockout && decide (s.wind.lockTime * 4 ≤ s.wind.quiet) then
        { s with wind := { s.wind with lockout := false } } else s) := rfl
    rw [row, State.ifAwake_awake s _ awake, if_pos (by simp [on, quiet])]

end Sys2Proof.Machine
end

section
/-!
SUPPORT. What a group's own work does at the arbiter (`Supply.Eases`): it takes its entries out of the collections at most,
the base, the level and the measurements stay, and a stow that is over leaves no grant of the awning behind.
-/

namespace Sys2Proof.Machine

open Sys2Proof

/-- What of the arbiter no grant, end or suspension touches (R98, R100, R101). -/
structure Meters where
  base : Nat
  level : Nat
  lowVoltage : Bool
  recRun : Nat

def Arbiter.meters (a : Arbiter) : Meters :=
  { base := a.base, level := a.level, lowVoltage := a.lowVoltage, recRun := a.recRun }

/-- What the arbiter's promise rests on: the power state, the budget, the collections, whether a stow is in progress, and
the store that the draws come from (R94, R98, R103, R104, R182). -/
structure Supply where
  power : Power
  meters : Meters
  grants : List Grant
  waiting : List Waiting
  stowing : Bool
  store : Store

def State.supply (s : State) : Supply :=
  { power := s.power, meters := s.arb.meters, grants := s.arb.grants, waiting := s.arb.waiting, stowing := s.aw.stowing
    store := s.store }

/-- `b` asks nothing that `a` did not (R112, R113). -/
structure Supply.Eases (a b : Supply) : Prop where
  power : b.power = a.power
  meters : b.meters = a.meters
  grants : b.grants.Sublist a.grants
  waiting : b.waiting.Sublist a.waiting
  stowing : b.stowing = a.stowing ∨ ∀ e ∈ b.grants, e.holder ≠ .awning
  store : b.store = a.store

@[simp] theorem Supply.Eases.refl (a : Supply) : a.Eases a :=
  ⟨rfl, rfl, List.Sublist.refl _, List.Sublist.refl _, .inl rfl, rfl⟩

theorem Supply.Eases.trans {a b c : Supply} (h : a.Eases b) (k : b.Eases c) : a.Eases c := by
  refine ⟨k.power.trans h.power, k.meters.trans h.meters, k.grants.trans h.grants, k.waiting.trans h.waiting, ?_,
    k.store.trans h.store⟩
  rcases k.stowing with same | free
  · rcases h.stowing with same' | free
    · exact .inl (same.trans same')
    · exact .inr fun e mem => free e (k.grants.subset mem)
  · exact .inr free

variable {a : Supply} {s : State}

/-! ## Updates that are no matter of the arbiter -/

theorem State.supply_of_parts {t : State} (power : t.power = s.power) (arb : t.arb = s.arb) (aw : t.aw = s.aw)
    (store : t.store = s.store) : t.supply = s.supply := by simp only [State.supply, power, arb, aw, store]

theorem State.supply_foldl {α : Type} (f : State → α → State) (k : ∀ t a, (f t a).supply = t.supply) (l : List α)
    (s : State) : (l.foldl f s).supply = s.supply := by
  induction l generalizing s with
  | nil => rfl
  | cons a l ih => rw [List.foldl_cons, ih, k]

variable (s)

@[simp] theorem State.supply_with_jk (v : Levelling) : ({ s with jk := v } : State).supply = s.supply :=
  State.supply_of_parts rfl rfl rfl rfl
@[simp] theorem State.supply_with_fe (v : FrontEnd) : ({ s with fe := v } : State).supply = s.supply :=
  State.supply_of_parts rfl rfl rfl rfl
@[simp] theorem State.supply_with_sa (v : StanceAttention) : ({ s with sa := v } : State).supply = s.supply :=
  State.supply_of_parts rfl rfl rfl rfl
@[simp] theorem State.supply_with_link (v : Link) : ({ s with link := v } : State).supply = s.supply :=
  State.supply_of_parts rfl rfl rfl rfl
@[simp] theorem State.supply_with_guard (v : Guard) : ({ s with guard := v } : State).supply = s.supply :=
  State.supply_of_parts rfl rfl rfl rfl
@[simp] theorem State.supply_with_wind (v : Wind) : ({ s with wind := v } : State).supply = s.supply :=
  State.supply_of_parts rfl rfl rfl rfl
@[simp] theorem State.supply_with_inputs (v : Inputs) : ({ s with inputs := v } : State).supply = s.supply :=
  State.supply_of_parts rfl rfl rfl rfl
@[simp] theorem State.supply_with_test (v : Option CircuitTest) : ({ s with test := v } : State).supply = s.supply :=
  State.supply_of_parts rfl rfl rfl rfl
@[simp] theorem State.supply_setInputs (i : Inputs) : (s.setInputs i).supply = s.supply :=
  State.supply_of_parts rfl rfl rfl rfl
@[simp] theorem State.supply_setClock (c : Clock) : (s.setClock c).supply = s.supply := State.supply_of_parts rfl rfl rfl rfl
@[simp] theorem State.supply_setHealth (c : ChannelId) (h : Health) : (s.setHealth c h).supply = s.supply :=
  State.supply_of_parts rfl rfl rfl rfl
@[simp] theorem State.supply_setRoom (r : RoomId) (x : Room) : (s.setRoom r x).supply = s.supply :=
  State.supply_of_parts rfl rfl rfl rfl
@[simp] theorem State.supply_setChan (c : ChannelId) (x : Channel) : (s.setChan c x).supply = s.supply :=
  State.supply_of_parts rfl rfl rfl rfl
@[simp] theorem State.supply_setSense (r : RoomId) (x : RoomSense) : (s.setSense r x).supply = s.supply :=
  State.supply_of_parts rfl rfl rfl rfl
@[simp] theorem State.supply_off (c : ChannelId) : (s.off c).supply = s.supply := State.supply_of_parts rfl rfl rfl rfl
@[simp] theorem State.supply_drive (c : ChannelId) (d : ChanDir) (p : Int) : (s.drive c d p).supply = s.supply :=
  State.supply_of_parts rfl rfl rfl rfl
@[simp] theorem State.supply_clearPeaks (g : Group) : (s.clearPeaks g).supply = s.supply :=
  State.supply_of_parts rfl rfl rfl rfl
@[simp] theorem State.supply_zeroRoom (r : RoomId) : (s.zeroRoom r).supply = s.supply :=
  State.supply_of_parts rfl rfl rfl rfl
@[simp] theorem State.supply_zeroAwning : s.zeroAwning.supply = s.supply := State.supply_of_parts rfl rfl rfl rfl
@[simp] theorem State.supply_restance : s.restance.supply = s.supply := State.supply_of_parts rfl rfl rfl rfl
@[simp] theorem State.supply_claimJacks : s.claimJacks.supply = s.supply := State.supply_of_parts rfl rfl rfl rfl
@[simp] theorem State.supply_claimRoom (r : RoomId) : (s.claimRoom r).supply = s.supply :=
  State.supply_of_parts rfl rfl rfl rfl
@[simp] theorem State.supply_setHit (i : Nat) (u : WatchUnit) (b : Bool) : (s.setHit i u b).supply = s.supply :=
  State.supply_of_parts rfl rfl rfl rfl
@[simp] theorem State.supply_setLight (j : JackId) (b : Bool) : (s.setLight j b).supply = s.supply :=
  State.supply_of_parts rfl rfl rfl rfl
@[simp] theorem State.supply_setTouch (j : JackId) : (s.setTouch j).supply = s.supply :=
  State.supply_of_parts rfl rfl rfl rfl
@[simp] theorem State.supply_assertDump : s.assertDump.supply = s.supply := State.supply_of_parts rfl rfl rfl rfl
@[simp] theorem State.supply_roomOff (r : RoomId) : (s.roomOff r).supply = s.supply := State.supply_of_parts rfl rfl rfl rfl
@[simp] theorem State.supply_enterSettle : s.enterSettle.supply = s.supply := State.supply_of_parts rfl rfl rfl rfl
@[simp] theorem State.supply_emptyRing : s.emptyRing.supply = s.supply := State.supply_of_parts rfl rfl rfl rfl
@[simp] theorem State.supply_putReply (f : SentFrame) : (s.putReply f).supply = s.supply :=
  State.supply_of_parts rfl rfl rfl rfl
@[simp] theorem State.supply_markDone (t : Station) : (s.markDone t).supply = s.supply := by
  cases t <;> simp [State.markDone]
@[simp] theorem State.supply_giveUp (g : Group) : (s.giveUp g).supply = s.supply := by cases g <;> rfl
@[simp] theorem State.supply_joinGroup (g : Group) : (s.joinGroup g).supply = s.supply :=
  State.supply_of_parts (by simp) (by simp) (by simp) (by simp)
@[simp] theorem State.supply_joinSupervision (f : SupCauses → SupCauses) : (s.joinSupervision f).supply = s.supply :=
  State.supply_of_parts (by simp) (by simp) (by simp) (by simp)
@[simp] theorem State.supply_recordEnd (g : Group) (e : StopRecord) : (s.recordEnd g e).supply = s.supply :=
  State.supply_of_parts (by simp) (by simp) (by simp) (by simp)

/-- A change of the awning that is none of its stow. -/
theorem State.supply_modAw (f : Awning → Awning) (e : (f s.aw).stowing = s.aw.stowing) :
    (s.modAw f).supply = s.supply := by
  simp only [State.supply, State.modAw, e]

@[simp] theorem State.supply_setPending (p : Option StowCause) : (s.setPending p).supply = s.supply :=
  State.supply_modAw s _ rfl

/-! ## Valves and drives (R140 to R142) -/

@[simp] theorem State.supply_openValve (j : JackId) (d : ChanDir) : (s.openValve j d).supply = s.supply :=
  State.supply_of_parts (by simp) (by simp) (by simp) (by simp)
@[simp] theorem State.supply_closeValve (j : JackId) : (s.closeValve j).supply = s.supply :=
  State.supply_of_parts (by simp) (by simp) (by simp) (by simp)
@[simp] theorem State.supply_closeValves : s.closeValves.supply = s.supply :=
  State.supply_of_parts (by simp) (by simp) (by simp) (by simp)
@[simp] theorem State.supply_pumpFollow : s.pumpFollow.supply = s.supply :=
  State.supply_of_parts (by simp) (by simp) (by simp) (by simp)
@[simp] theorem State.supply_startStep (j : JackId) (n : Nat) : (s.startStep j n).supply = s.supply := by
  simp [State.startStep]

@[simp] theorem State.supply_openTowards (j : JackId) (n : Int) : (s.openTowards j n).supply = s.supply := by
  unfold State.openTowards
  repeat' split
  all_goals simp

@[simp] theorem State.supply_openStation (t : Station) : (s.openStation t).supply = s.supply := by
  rw [State.openStation, State.supply_foldl _ fun u j => State.supply_openTowards u j _, State.supply_with_jk]

@[simp] theorem State.supply_chooseStation (n : Nat) : (s.chooseStation n).supply = s.supply := by
  induction n generalizing s with
  | zero => rfl
  | succ n ih =>
    unfold State.chooseStation
    split
    · rfl
    · dsimp only
      split <;> simp [ih]

@[simp] theorem State.supply_openStow : s.openStow.supply = s.supply :=
  State.supply_foldl _ (fun t j => by split <;> simp) _ _

@[simp] theorem State.supply_openUntouched :
    (s.presentJacks.foldl (fun t j => if (t.jk.touch.get j).isSome then t else t.openValve j .first) s).supply
      = s.supply :=
  State.supply_foldl _ (fun t j => by split <;> simp) _ _

@[simp] theorem State.supply_touchdownDone : s.touchdownDone.supply = s.supply := by
  unfold State.touchdownDone
  split <;> rfl

@[simp] theorem State.supply_touchdownFirst : s.touchdownFirst.supply = s.supply := by
  rw [State.touchdownFirst, State.supply_touchdownDone, State.supply_foldl _ fun t j => by split <;> simp,
    State.supply_with_jk]

@[simp] theorem State.supply_touchdownJudge (j : JackId) : (s.touchdownJudge j).supply = s.supply := by
  unfold State.touchdownJudge
  repeat' split
  all_goals simp

@[simp] theorem State.supply_startDrive (r : RoomId) (d : Drive) : (s.startDrive r d).supply = s.supply := by
  unfold State.startDrive
  split <;> rfl

@[simp] theorem State.supply_partnerNominal (r : RoomId) (d : Drive) : (s.partnerNominal r d).supply = s.supply := by
  unfold State.partnerNominal
  split <;> rfl

@[simp] theorem State.supply_stopDrive (r : RoomId) (d : Drive) : (s.stopDrive r d).supply = s.supply := by
  simp [State.stopDrive]

@[simp] theorem State.supply_correctDuties (r : RoomId) : (s.correctDuties r).supply = s.supply := by
  unfold State.correctDuties
  dsimp only
  repeat' split
  all_goals simp

@[simp] theorem State.supply_enterPreparing (r : RoomId) : (s.enterPreparing r).supply = s.supply := by
  simp [State.enterPreparing]
@[simp] theorem State.supply_enterSettling (r : RoomId) : (s.enterSettling r).supply = s.supply := by
  simp [State.enterSettling]
@[simp] theorem State.supply_roomEnded : s.roomEnded.supply = s.supply := by unfold State.roomEnded; split <;> rfl
@[simp] theorem State.supply_roomCreeps (r : RoomId) : (s.roomCreeps r).supply = s.supply := by
  unfold State.roomCreeps
  dsimp only
  split <;> rfl

@[simp] theorem State.supply_driftCheck : s.driftCheck.supply = s.supply := by
  unfold State.driftCheck
  dsimp only
  repeat' split
  all_goals simp

@[simp] theorem State.supply_rederive : s.rederive.supply = s.supply := by
  unfold State.rederive
  split <;> rfl

@[simp] theorem State.supply_rederiveIdle : s.rederiveIdle.supply = s.supply := by
  unfold State.rederiveIdle
  split <;> simp

/-! ## Suspension and FREEZE: the entries stay (R36, R37, R69, R71, R72, R88) -/

@[simp] theorem State.supply_haltJacks : s.haltJacks.supply = s.supply :=
  (State.supply_with_jk s.closeValves _).trans (State.supply_closeValves s)
@[simp] theorem State.supply_suspendJacks : s.suspendJacks.supply = s.supply := by simp [State.suspendJacks]
@[simp] theorem State.supply_lapseJog : s.lapseJog.supply = s.supply := by simp [State.lapseJog]
@[simp] theorem State.supply_haltRoom (r : RoomId) : (s.haltRoom r).supply = s.supply := by
  rw [State.haltRoom, State.supply_setRoom, State.supply_roomOff]
@[simp] theorem State.supply_suspendRoom (r : RoomId) : (s.suspendRoom r).supply = s.supply := by
  rw [State.suspendRoom, State.supply_setRoom, State.supply_haltRoom]
@[simp] theorem State.supply_lapseRoom (r : RoomId) : (s.lapseRoom r).supply = s.supply := by
  rw [State.lapseRoom, State.supply_setRoom, State.supply_haltRoom]

theorem Awning.stowing_of_st {a b : Awning} (e : b.st.work? = a.st.work?) : b.stowing = a.stowing := by
  rw [Awning.stowing, Awning.stowing, e]

@[simp] theorem State.supply_haltAwning : s.haltAwning.supply = s.supply := by
  unfold State.haltAwning
  dsimp only
  rw [State.supply_modAw, State.supply_off]
  refine Awning.stowing_of_st ?_
  rw [State.off_aw]
  cases s.aw.st <;> rfl

@[simp] theorem State.supply_suspendAwning : s.suspendAwning.supply = s.supply := by
  rw [State.suspendAwning, State.supply_modAw _ _ rfl, State.supply_haltAwning]

@[simp] theorem State.supply_notifySuspend (g : Group) : (s.notifySuspend g).supply = s.supply := by
  cases g <;> simp [State.notifySuspend]

@[simp] theorem State.supply_freezeOp (g : Group) : (s.freezeOp g).supply = s.supply := by
  cases g with
  | jacks => simp only [State.freezeOp, State.freezeJacks]; split <;> simp
  | room r => simp only [State.freezeOp, State.freezeRoom]; split <;> simp
  | awning =>
    simp only [State.freezeOp, State.freezeAwning]
    split
    · rfl
    · rw [State.supply_modAw _ _ rfl, State.supply_haltAwning]

@[simp] theorem State.supply_freezeGroup (g : Group) : (s.freezeGroup g).supply = s.supply := by
  unfold State.freezeGroup
  split <;> simp

@[simp] theorem State.supply_freezeAll : s.freezeAll.supply = s.supply := by
  rw [State.freezeAll, State.supply_restance, State.supply_foldl _ State.supply_freezeGroup]

/-- An awning in none of its stows has no stow in progress. -/
theorem Awning.stowing_idle {a : Awning} (idle : a.st = .idle) : a.stowing = false := by
  simp [Awning.stowing, idle, AwningState.work?]

end Sys2Proof.Machine
end

section
/-!
SUPPORT. The work of one group eases the supply (`Supply.Eases`): its ends, what it does with a grant, with a RESUME and
with a sample set.
-/

namespace Sys2Proof.Machine

open Sys2Proof

variable {a : Supply} {s : State}

/-! ## Ends (R112, R113) -/

@[simp] theorem Arbiter.sagIfEmpty_grants (b : Arbiter) : b.sagIfEmpty.grants = b.grants := by
  unfold Arbiter.sagIfEmpty; split <;> rfl
@[simp] theorem Arbiter.sagIfEmpty_waiting (b : Arbiter) : b.sagIfEmpty.waiting = b.waiting := by
  unfold Arbiter.sagIfEmpty; split <;> rfl
@[simp] theorem Arbiter.sagIfEmpty_meters (b : Arbiter) : b.sagIfEmpty.meters = b.meters := by
  unfold Arbiter.sagIfEmpty; split <;> rfl

/-- An end takes its group's entries; a stow ends with the awning's. -/
theorem State.eases_of_drop {t : State} (g : Group) (still : t.still = s.still) (arb : t.arb = (s.dropSupply g).arb)
    (stow : g = .awning ∨ t.aw.stowing = s.aw.stowing) : s.supply.Eases t.supply := by
  have gone : (s.dropSupply g).holds g = false := (State.dropSupply_gone s g).1
  have less : (s.dropSupply g).arb.meters = s.arb.meters ∧ (s.dropSupply g).arb.grants.Sublist s.arb.grants
      ∧ (s.dropSupply g).arb.waiting.Sublist s.arb.waiting := by
    unfold State.dropSupply
    split
    · dsimp only
      rw [Arbiter.sagIfEmpty_meters, Arbiter.sagIfEmpty_grants, Arbiter.sagIfEmpty_waiting]
      exact ⟨rfl, List.filter_sublist, List.filter_sublist⟩
    · exact ⟨rfl, List.Sublist.refl _, List.Sublist.refl _⟩
  rw [← arb] at less
  obtain ⟨meters, grants, waiting⟩ := less
  refine ⟨congrArg Still.power still, meters, grants, waiting, stow.symm.imp id ?_, congrArg Still.store still⟩
  rintro rfl e mem
  rw [State.holds, ← arb, List.any_eq_false] at gone
  simpa using gone e mem

@[simp] theorem Supply.Eases.endJacks (h : a.Eases s.supply) (reason : Reason) : a.Eases (s.endJacks reason).supply := by
  refine h.trans ?_
  cases work : s.jk.st.work? with
  | none => simp [State.endJacks, work]
  | some w =>
    obtain ⟨t, eq, -, -, -, arb, -⟩ := State.endJacks_spec s w reason work
    have aw : (s.endJacks reason).aw = s.aw := State.aw_of_view (State.view_endJacks s (by decide) reason)
    exact State.eases_of_drop .jacks (State.still_endJacks s reason) (by rw [eq, arb]) (.inr (by rw [aw]))

@[simp] theorem Supply.Eases.finishRoom (h : a.Eases s.supply) (r : RoomId) (reason : Reason) (k : Bool)
    (p : EndPosition) : a.Eases (s.finishRoom r reason k p).supply := by
  refine h.trans ?_
  by_cases work : (s.room r).st.work? = none
  · simp [State.finishRoom, work]
  · obtain ⟨t, eq, -, -, -, -, arb, -, aw, -⟩ := State.finishRoom_spec s r reason k p work
    exact State.eases_of_drop (.room r) (State.still_finishRoom s r reason k p) (by rw [eq, arb]) (.inr (by rw [eq, aw]))

@[simp] theorem Supply.Eases.finishAwning (h : a.Eases s.supply) (reason : Reason) (k : Bool) (p : EndPosition) :
    a.Eases (s.finishAwning reason k p).supply := by
  refine h.trans ?_
  by_cases work : s.aw.st.work? = none
  · simp [State.finishAwning, work]
  · obtain ⟨t, eq, -, -, -, arb, -⟩ := State.finishAwning_spec s reason k p work
    exact State.eases_of_drop .awning (State.still_finishAwning s reason k p) (by rw [eq, arb]) (.inl rfl)

@[simp] theorem Supply.Eases.endRoom (h : a.Eases s.supply) (r : RoomId) (reason : Reason) :
    a.Eases (s.endRoom r reason).supply := h.finishRoom r reason _ _

@[simp] theorem Supply.Eases.endRoomUnsure (h : a.Eases s.supply) (r : RoomId) (reason : Reason) :
    a.Eases (s.endRoomUnsure r reason).supply := h.finishRoom r reason _ _

@[simp] theorem Supply.Eases.endAwning (h : a.Eases s.supply) (reason : Reason) : a.Eases (s.endAwning reason).supply :=
  h.finishAwning reason _ _

@[simp] theorem Supply.Eases.endGroup (h : a.Eases s.supply) (g : Group) (reason : Reason) :
    a.Eases (s.endGroup g reason).supply := by
  cases g with
  | jacks => exact h.endJacks reason
  | room r => exact h.endRoom r reason
  | awning => exact h.endAwning reason

@[simp] theorem Supply.Eases.endMove (h : a.Eases s.supply) (g : Group) (reason : Reason) :
    a.Eases (s.endMove g reason).supply := by
  cases g with
  | awning => simp only [State.endMove]; split <;> simp [h]
  | _ => exact h.endGroup _ reason

theorem Supply.Eases.foldl {α : Type} (f : State → α → State) (k : ∀ t x, a.Eases t.supply → a.Eases (f t x).supply)
    (l : List α) (h : a.Eases s.supply) : a.Eases (l.foldl f s).supply := by
  induction l generalizing s with
  | nil => exact h
  | cons x l ih => exact ih (k s x h)

@[simp] theorem Supply.Eases.endEach (h : a.Eases s.supply) (reason : Reason) (gs : List Group) :
    a.Eases (s.endEach reason gs).supply := h.foldl _ (fun _ g k => k.endMove g reason) gs

/-! ## The levelling engine -/

@[simp] theorem Supply.Eases.nextLight (h : a.Eases s.supply) (l : List JackId) : a.Eases (s.nextLight l).supply := by
  induction l generalizing s with
  | nil => exact h.endJacks _
  | cons j l ih =>
    unfold State.nextLight
    split
    · split
      · simpa using h
      · exact ih (by simpa using h)
    · exact ih h

@[simp] theorem Supply.Eases.finishStepping (h : a.Eases s.supply) (j : JackId) :
    a.Eases (s.finishStepping j).supply := by simp [State.finishStepping, h]

@[simp] theorem Supply.Eases.enterLoadCheck (h : a.Eases s.supply) : a.Eases s.enterLoadCheck.supply := by
  simp [State.enterLoadCheck, h]

@[simp] theorem Supply.Eases.judgeStep (h : a.Eases s.supply) (p : LightStep) : a.Eases (s.judgeStep p).supply := by
  unfold State.judgeStep
  dsimp only
  repeat' split
  all_goals simp [h]

@[simp] theorem Supply.Eases.startPass (h : a.Eases s.supply) (k : Nat) : a.Eases (s.startPass k).supply := by
  unfold State.startPass
  split <;> simp [h]

@[simp] theorem Supply.Eases.judgeSettle (h : a.Eases s.supply) : a.Eases s.judgeSettle.supply := by
  unfold State.judgeSettle
  dsimp only
  repeat' split
  all_goals simp [h]

@[simp] theorem Supply.Eases.touchdownNext (h : a.Eases s.supply) : a.Eases s.touchdownNext.supply := by
  have judged : (s.presentJacks.foldl State.touchdownJudge s).supply = s.supply :=
    State.supply_foldl _ State.supply_touchdownJudge _ _
  unfold State.touchdownNext
  dsimp only
  split <;> simp [judged, h]

@[simp] theorem Supply.Eases.jogDrive (h : a.Eases s.supply) : a.Eases s.jogDrive.supply := by
  unfold State.jogDrive
  repeat' split
  all_goals simp [h]

@[simp] theorem Supply.Eases.returnJacks (h : a.Eases s.supply) : a.Eases s.returnJacks.supply := by
  unfold State.returnJacks
  dsimp only
  repeat' split
  all_goals simp [h]

@[simp] theorem Supply.Eases.returnJacksIfFree (h : a.Eases s.supply) : a.Eases s.returnJacksIfFree.supply := by
  unfold State.returnJacksIfFree
  split <;> simp [h]

@[simp] theorem Supply.Eases.grantJacks (h : a.Eases s.supply) : a.Eases s.grantJacks.supply := by
  unfold State.grantJacks
  dsimp only
  split <;> simp [h]

@[simp] theorem Supply.Eases.resumeJacks (h : a.Eases s.supply) : a.Eases s.resumeJacks.supply := by
  simp [State.resumeJacks, h]

@[simp] theorem Supply.Eases.unfreezeJacks (h : a.Eases s.supply) : a.Eases s.unfreezeJacks.supply := by
  unfold State.unfreezeJacks
  dsimp only
  split <;> simp [h]

@[simp] theorem Supply.Eases.holdJog (h : a.Eases s.supply) : a.Eases s.holdJog.supply := by
  unfold State.holdJog
  dsimp only
  split <;> simp [h]

@[simp] theorem Supply.Eases.stepSample (h : a.Eases s.supply) (p : LightStep) (tilt : Bool) :
    a.Eases (s.stepSample p tilt).supply := by
  unfold State.stepSample
  split
  · split
    · dsimp only
      rw [State.supply_with_jk, State.supply_closeValve]
      exact h
    · exact h
  · split <;> simp [h]
  · split <;> simp [h]

@[simp] theorem Supply.Eases.driveSample (h : a.Eases s.supply) : a.Eases s.driveSample.supply := by
  unfold State.driveSample
  split
  · exact h
  · rename_i t _
    have closed : ((s.jacksOf t).foldl (fun u j => if u.valveAtBand j (u.targetOf j) then u.closeValve j else u) s).supply
        = s.supply := State.supply_foldl _ (fun u j => by split <;> simp) _ _
    dsimp only
    split <;> simp [closed, h]

@[simp] theorem Supply.Eases.stowSample (h : a.Eases s.supply) : a.Eases s.stowSample.supply := by
  obtain ⟨u, closes⟩ : ∃ u, s.presentJacks.foldl
      (fun t j => if t.driven (.valve j) && t.retracted j then t.closeValve j else t) s = u := ⟨_, rfl⟩
  have closed : a.Eases u.supply := by
    rw [← closes, State.supply_foldl _ fun t j => by split <;> simp]
    exact h
  unfold State.stowSample
  rw [closes]
  dsimp only
  repeat' split
  all_goals simp [closed, h]

@[simp] theorem Supply.Eases.jogSample (h : a.Eases s.supply) : a.Eases s.jogSample.supply := by
  unfold State.jogSample
  repeat' split
  all_goals simp [h]

/-- One sample set taken by the engine: the faults' ends, then the work of its state. -/
@[simp] theorem Supply.Eases.jackSample (h : a.Eases s.supply) (faults : SampleFaults) (tilt : Bool) :
    a.Eases (s.jackSample faults tilt).supply := by
  unfold State.jackSample
  obtain ⟨u, tilted⟩ : ∃ u, (if faults.tilt && s.jk.st.isLevelAuto then s.endJacks .sensorFault else s) = u := ⟨_, rfl⟩
  have first : a.Eases u.supply := by rw [← tilted]; split <;> simp [h]
  obtain ⟨v, faulted⟩ : ∃ v, (if faults.jack then (u.endJacks .sensorFault).joinGroup .jacks else u) = v := ⟨_, rfl⟩
  have second : a.Eases v.supply := by rw [← faulted]; split <;> simp [first]
  rw [tilted]
  dsimp only
  rw [faulted]
  repeat' split
  all_goals simp [second]

@[simp] theorem Supply.Eases.jogHoldOut (h : a.Eases s.supply) : a.Eases s.jogHoldOut.supply := by
  unfold State.jogHoldOut
  dsimp only
  split <;> simp [h]

@[simp] theorem Supply.Eases.settleOut (h : a.Eases s.supply) : a.Eases s.settleOut.supply := by
  unfold State.settleOut
  dsimp only
  split <;> simp [h]

@[simp] theorem Supply.Eases.stepOut (h : a.Eases s.supply) : a.Eases s.stepOut.supply := by
  unfold State.stepOut
  dsimp only
  repeat' split
  all_goals simp [h]

/-! ## Rooms -/

section
variable (h : a.Eases s.supply) (r : RoomId)
include h

@[simp] theorem Supply.Eases.roomArrivesIn (reason : Reason) : a.Eases (s.roomArrivesIn r reason).supply := by
  unfold State.roomArrivesIn
  split <;> simp [h]

@[simp] theorem Supply.Eases.roomArrival : a.Eases (s.roomArrival r).supply := by
  unfold State.roomArrival
  dsimp only
  repeat' split
  all_goals simp [h]

@[simp] theorem Supply.Eases.enterMoving : a.Eases (s.enterMoving r).supply := by
  unfold State.enterMoving
  dsimp only
  repeat' split
  all_goals simp [h]

@[simp] theorem Supply.Eases.proceedRoom : a.Eases (s.proceedRoom r).supply := by
  unfold State.proceedRoom
  dsimp only
  repeat' split
  all_goals simp [h]

@[simp] theorem Supply.Eases.returnRoom : a.Eases (s.returnRoom r).supply := by
  unfold State.returnRoom
  dsimp only
  repeat' split
  all_goals simp [h]

@[simp] theorem Supply.Eases.returnRoomIfFree : a.Eases (s.returnRoomIfFree r).supply := by
  unfold State.returnRoomIfFree
  split <;> simp [h]

@[simp] theorem Supply.Eases.grantRoom : a.Eases (s.grantRoom r).supply := by
  unfold State.grantRoom
  split <;> simp [h]

@[simp] theorem Supply.Eases.resumeRoom : a.Eases (s.resumeRoom r).supply := by simp [State.resumeRoom, h]

@[simp] theorem Supply.Eases.unfreezeRoom : a.Eases (s.unfreezeRoom r).supply := by
  unfold State.unfreezeRoom
  dsimp only
  split <;> simp [h]

@[simp] theorem Supply.Eases.holdRoom : a.Eases (s.holdRoom r).supply := by
  unfold State.holdRoom
  dsimp only
  split <;> simp [h]

@[simp] theorem Supply.Eases.pinWithdrawn : a.Eases (s.pinWithdrawn r).supply := by simp [State.pinWithdrawn, h]

@[simp] theorem Supply.Eases.pinEngaged : a.Eases (s.pinEngaged r).supply := by simp [State.pinEngaged, h]

@[simp] theorem Supply.Eases.arriveIfStill : a.Eases (s.arriveIfStill r).supply := by
  unfold State.arriveIfStill
  split <;> simp [h]

@[simp] theorem Supply.Eases.judgeDrive (d : Drive) : a.Eases (s.judgeDrive r d).supply := by
  unfold State.judgeDrive
  repeat' split
  all_goals simp [h]

/-- The fore drive, the aft drive, the fault check, each on what the one before has left (R67). -/
@[simp] theorem Supply.Eases.roomMovingSample : a.Eases (s.roomMovingSample r).supply := by
  have fore := h.judgeDrive r .fore
  have aft := fore.judgeDrive r .aft
  unfold State.roomMovingSample
  dsimp only
  repeat' split
  all_goals simp [h, fore, aft]

@[simp] theorem Supply.Eases.roomSample : a.Eases (s.roomSample r).supply := by
  unfold State.roomSample
  repeat' split
  all_goals simp [h]

@[simp] theorem Supply.Eases.roomStalls (d : Drive) : a.Eases (s.roomStalls r d).supply := by
  unfold State.roomStalls
  dsimp only
  repeat' split
  all_goals simp [h]

@[simp] theorem Supply.Eases.inStop (d : Drive) (made : Bool) : a.Eases (s.inStop r d made).supply := by
  unfold State.inStop State.inStopMade
  dsimp only
  repeat' split
  all_goals simp [h]

@[simp] theorem Supply.Eases.pinChange (p : PinState) : a.Eases (s.pinChange r p).supply := by
  unfold State.pinChange
  dsimp only
  split <;> simp [h]

@[simp] theorem Supply.Eases.roomHoldOut : a.Eases (s.roomHoldOut r).supply := by
  unfold State.roomHoldOut
  dsimp only
  split <;> simp [h]

@[simp] theorem Supply.Eases.pinFails : a.Eases (s.pinFails r).supply := by
  unfold State.pinFails
  split <;> simp [h]

end

/-! ## The awning -/

@[simp] theorem Supply.Eases.awningArrivesIn (h : a.Eases s.supply) : a.Eases s.awningArrivesIn.supply := by
  simp [State.awningArrivesIn, h]

@[simp] theorem Supply.Eases.driveAwning (h : a.Eases s.supply) : a.Eases s.driveAwning.supply := by
  rcases State.driveAwning_cases s with ⟨-, eq⟩ | ⟨-, -, eq⟩
  · rw [eq, State.supply_modAw _ _ rfl]
    exact h
  · rw [eq]
    exact h.endAwning _

/-- A MOVE or HOME goes on to MOVING: no stow is in progress before or after (R80, R85). -/
theorem Supply.Eases.enterAwningMoving (h : a.Eases s.supply) (free : s.aw.stowing = false) :
    a.Eases s.enterAwningMoving.supply := by
  obtain ⟨u, moves⟩ : ∃ u, s.modAw (fun x => { x with st := .work .moving, waitLeft := none }) = u := ⟨_, rfl⟩
  have same : a.Eases u.supply := by
    rw [← moves, State.supply_modAw]
    · exact h
    · exact free.symm
  unfold State.enterAwningMoving
  rw [moves]
  dsimp only
  repeat' split
  all_goals simp [same]

/-- A stow in progress goes on to STOWING (R94, R96). -/
theorem Supply.Eases.enterStowing (h : a.Eases s.supply) (stow : s.aw.stowing = true) :
    a.Eases s.enterStowing.supply := by
  obtain ⟨u, goes⟩ : ∃ u, s.modAw (fun x => { x with st := .work .stowing }) = u := ⟨_, rfl⟩
  have same : a.Eases u.supply := by
    rw [← goes, State.supply_modAw]
    · exact h
    · exact stow.symm
  unfold State.enterStowing
  rw [goes]
  dsimp only
  split
  · exact same.awningArrivesIn
  · rw [State.supply_modAw _ _ rfl]
    exact same

@[simp] theorem Supply.Eases.returnAwning (h : a.Eases s.supply) : a.Eases s.returnAwning.supply := by
  unfold State.returnAwning
  split
  · rename_i w suspended
    obtain ⟨u, returns⟩ : ∃ u, s.modAw (fun x => { x with st := .work w }) = u := ⟨_, rfl⟩
    have st : u.aw.st = .work w := by rw [← returns]; rfl
    have same : a.Eases u.supply := by
      rw [← returns, State.supply_modAw _ _ (Awning.stowing_of_st (by rw [suspended]; rfl))]
      exact h
    rw [returns]
    dsimp only
    cases w with
    | waitSupply =>
      dsimp only
      split
      · exact same.enterAwningMoving (by simp [Awning.stowing, st, AwningState.work?])
      · exact same
    | moving => exact same.enterAwningMoving (by simp [Awning.stowing, st, AwningState.work?])
    | stowing => exact same.enterStowing (by simp [Awning.stowing, st, AwningState.work?])
  · exact h

@[simp] theorem Supply.Eases.returnAwningIfFree (h : a.Eases s.supply) : a.Eases s.returnAwningIfFree.supply := by
  unfold State.returnAwningIfFree
  split <;> simp [h]

@[simp] theorem Supply.Eases.grantAwning (h : a.Eases s.supply) : a.Eases s.grantAwning.supply := by
  obtain ⟨u, granted⟩ : ∃ u, s.modAw (fun x => { x with waitLeft := none }) = u := ⟨_, rfl⟩
  have same : a.Eases u.supply := by
    rw [← granted, State.supply_modAw _ _ rfl]
    exact h
  unfold State.grantAwning
  rw [granted]
  dsimp only
  split
  · next st => exact same.enterAwningMoving (by simp [Awning.stowing, st, AwningState.work?])
  · exact same

@[simp] theorem Supply.Eases.resumeAwning (h : a.Eases s.supply) : a.Eases s.resumeAwning.supply := by
  refine Supply.Eases.returnAwningIfFree ?_
  rw [State.supply_modAw _ _ rfl]
  exact h

@[simp] theorem Supply.Eases.unfreezeAwning (h : a.Eases s.supply) : a.Eases s.unfreezeAwning.supply := by
  refine Supply.Eases.returnAwningIfFree ?_
  rw [State.supply_modAw _ _ rfl]
  exact h

@[simp] theorem Supply.Eases.awningSample (h : a.Eases s.supply) : a.Eases s.awningSample.supply := by
  unfold State.awningSample
  repeat' split
  all_goals simp [h]

@[simp] theorem Supply.Eases.stowedMade (h : a.Eases s.supply) : a.Eases s.stowedMade.supply := by
  unfold State.stowedMade
  dsimp only
  repeat' split
  all_goals simp [h]

@[simp] theorem Supply.Eases.stowedOpen (h : a.Eases s.supply) : a.Eases s.stowedOpen.supply := by
  unfold State.stowedOpen
  dsimp only
  split
  · rw [State.supply_modAw _ _ rfl]
    exact h
  · exact h

/-! ## Notices of the arbiter (R108) -/

@[simp] theorem Supply.Eases.notifyGrant (h : a.Eases s.supply) (e : Waiting) : a.Eases (s.notifyGrant e).supply := by
  unfold State.notifyGrant
  split <;> simp [h]

end Sys2Proof.Machine
end

section
/-!
SUPPORT. The arbiter's promise for a part that is awake (`Supply.Fits`), and what keeps it: the walk of the waiting list, the
requests, the suspensions in victim order, and a change of the budget (R103, R104, R109 to R111).
-/

namespace Sys2Proof.Machine

open Sys2Proof

variable {s : State}

/-! ## The promise -/

def Meters.budget (m : Meters) : Nat := budgetOf m.base m.level

/-- The draws granted to the stow (R94, R109). -/
def Supply.stowDraws (a : Supply) : Nat := sumDraws (a.grants.filter fun e => decide (e.cls = .stow))

/-- What the stow in progress may hold: 40 A at most (4.1, R94). -/
def Supply.stowShare (a : Supply) : Nat := if a.stowing then 40 else 0

/-- All of the promise but the sum of the draws; the stow holds at most `n`. -/
structure Supply.Held (a : Supply) (n : Nat) : Prop where
  awake : a.power = .awake
  classes : ∀ e ∈ a.waiting, e.cls ≠ .stow
  owner : ∀ e ∈ a.grants, e.cls = .stow → e.holder = .awning
  stow : a.stowDraws ≤ n
  draws : a.store.drawsOk

/-- The promise of the arbiter of a part that is awake (R103). -/
structure Supply.Fits (a : Supply) : Prop where
  held : a.Held a.stowShare
  sum : sumDraws a.grants ≤ a.meters.budget

/-- Awake, the promise is that of the statement. -/
theorem State.fits_iff (awake : s.power = .awake) : s.supply.Fits ↔ s.supplyFits := by
  constructor
  · rintro ⟨⟨-, classes, owner, stow, draws⟩, sum⟩
    exact ⟨sum, classes, ⟨owner, stow⟩, draws, fun other => absurd awake other⟩
  · rintro ⟨sum, classes, ⟨owner, stow⟩, draws, -⟩
    exact ⟨⟨awake, classes, owner, stow, draws⟩, sum⟩

theorem Supply.Fits.awake (h : s.supply.Fits) : s.power = .awake := h.held.awake

theorem Supply.Fits.supplyFits (h : s.supply.Fits) : s.supplyFits := (State.fits_iff h.awake).mp h

theorem sumDraws_le_of_sublist {l m : List Grant} (h : l.Sublist m) : sumDraws l ≤ sumDraws m :=
  (h.map _).sum_le_sum fun _ _ => Nat.zero_le _

theorem sumDraws_eq_zero_of_forall_ne {l : List Grant} {p : Grant → Bool} (h : ∀ e ∈ l, p e = false) :
    sumDraws (l.filter p) = 0 := by
  rw [List.filter_eq_nil_iff.mpr fun e mem => by simp [h e mem]]
  rfl

/-- What eases the supply keeps the promise. -/
theorem Supply.Fits.eased {a b : Supply} (h : a.Fits) (e : a.Eases b) : b.Fits := by
  obtain ⟨⟨awake, classes, owner, stow, draws⟩, sum⟩ := h
  have owner' : ∀ x ∈ b.grants, x.cls = .stow → x.holder = .awning := fun x mem => owner x (e.grants.subset mem)
  refine ⟨⟨e.power.trans awake, fun x mem => classes x (e.waiting.subset mem), owner', ?_, e.store ▸ draws⟩, ?_⟩
  · rcases e.stowing with same | free
    · rw [Supply.stowShare, same]
      exact (sumDraws_le_of_sublist (e.grants.filter _)).trans stow
    · rw [Supply.stowDraws, sumDraws_eq_zero_of_forall_ne]
      · exact Nat.zero_le _
      · intro x mem
        simpa using fun cls => free x mem (owner' x mem cls)
  · rw [e.meters]
    exact (sumDraws_le_of_sublist e.grants).trans sum

/-- An event of which the promise takes no notice. -/
theorem Supply.Fits.of_parts {t : State} (h : s.supply.Fits) (power : t.power = .awake) (base : t.arb.base = s.arb.base)
    (level : t.arb.level = s.arb.level) (grants : t.arb.grants = s.arb.grants) (waiting : t.arb.waiting = s.arb.waiting)
    (stowing : t.aw.stowing = s.aw.stowing) (draws : t.store.drawsOk) : t.supply.Fits := by
  obtain ⟨⟨-, classes, owner, stow, -⟩, sum⟩ := h
  simp only [State.supply, Supply.stowDraws, Supply.stowShare, ← grants, ← waiting, ← stowing, Meters.budget,
    Arbiter.meters, ← base, ← level] at classes owner stow sum
  exact ⟨⟨power, classes, owner, stow, draws⟩, sum⟩

/-! ## The walk (R107) -/

/-- A grant from the head that fits. -/
theorem Supply.Fits.grantHead (h : s.supply.Fits) (e : Waiting) (rest : List Waiting) (head : s.arb.waiting = e :: rest)
    (room : s.grantSum + e.draw ≤ s.budget) : (s.grantHead e rest).supply.Fits := by
  obtain ⟨⟨awake, classes, owner, stow, draws⟩, -⟩ := h
  have cls : e.cls ≠ .stow := classes e (by rw [State.supply, head]; exact List.mem_cons_self)
  refine ⟨⟨awake, fun x mem => classes x ?_, fun x mem => ?_, ?_, draws⟩, ?_⟩
  · rw [State.supply, head]
    exact List.mem_cons_of_mem _ mem
  · rcases List.mem_append.mp mem with old | new
    · exact owner x old
    · rw [List.mem_singleton.mp new]
      exact fun c => absurd c cls
  · have same : sumDraws ((s.grantHead e rest).arb.grants.filter fun x => decide (x.cls = .stow)) = s.supply.stowDraws := by
      simp [State.grantHead, cls, Supply.stowDraws, State.supply]
    exact same.le.trans stow
  · show sumDraws (s.arb.grants ++ [_]) ≤ s.budget
    rw [sumDraws_append]
    exact room

theorem Supply.Fits.walkFuel (h : s.supply.Fits) (k : Nat) : (s.walkFuel k).supply.Fits := by
  induction k generalizing s with
  | zero => exact h
  | succ k ih =>
    unfold State.walkFuel
    split
    · exact h
    · rename_i e rest head
      split
      · next room => exact ih ((h.grantHead e rest head room).eased ((Supply.Eases.refl _).notifyGrant e))
      · exact h

/-- An event and the walk it owes (R112, R113). -/
@[simp] theorem Supply.Fits.settled {t : State} (h : t.supply.Fits) : (s.settled t).supply.Fits := by
  rw [State.settled, State.supply_restance, State.walkAfter]
  split
  · exact h.walkFuel _
  · exact h

/-- A request other than a stow's (R106). -/
theorem Supply.Fits.requestSupply (h : s.supply.Fits) (g : Group) (c : SupplyClass) (n : Nat) (cls : c ≠ .stow) :
    (s.requestSupply g c n).supply.Fits := by
  obtain ⟨⟨awake, classes, owner, stow, draws⟩, sum⟩ := h
  obtain ⟨e, entry⟩ : ∃ e : Waiting, { holder := g, cls := c, draw := n, before := false } = e := ⟨_, rfl⟩
  have placed : ({ s with arb := { s.arb with waiting := placeWaiting e s.arb.waiting } } : State).supply.Fits := by
    refine ⟨⟨awake, fun x mem => ?_, owner, stow, draws⟩, sum⟩
    rcases (mem_placeWaiting _ _ _).mp mem with rfl | old
    · exact entry ▸ cls
    · exact classes x old
  rw [State.requestSupply, entry]
  exact placed.walkFuel _

/-! ## Suspensions (R109, R110) -/

/-- A suspension moves the victim's entry from the grants to the list. -/
theorem State.supply_suspendHolder (v : Grant) : (s.suspendHolder v).supply = { s.supply with
    grants := s.arb.grants.filter fun e => decide (e.holder ≠ v.holder)
    waiting := placeWaiting { holder := v.holder, cls := v.cls, draw := v.draw, before := true } s.arb.waiting } := by
  unfold State.suspendHolder
  dsimp only
  rw [State.supply_notifySuspend]
  simp only [State.supply, Arbiter.sagIfEmpty_grants, Arbiter.sagIfEmpty_waiting, Arbiter.sagIfEmpty_meters]
  rfl

theorem Supply.Held.suspendHolder {n : Nat} (h : s.supply.Held n) (v : Grant) (cls : v.cls ≠ .stow) :
    (s.suspendHolder v).supply.Held n := by
  obtain ⟨awake, classes, owner, stow, draws⟩ := h
  rw [State.supply_suspendHolder]
  refine ⟨awake, fun e mem => ?_, fun e mem => owner e (List.mem_filter.mp mem).1, ?_, draws⟩
  · rcases (mem_placeWaiting _ _ _).mp mem with rfl | old
    · exact cls
    · exact classes e old
  · exact (sumDraws_le_of_sublist (List.filter_sublist.filter _)).trans stow

/-- Without a victim every grant is the stow's (R109). -/
theorem victimOf_none (l : List Grant) (none : victimOf l = none) : ∀ e ∈ l, e.cls = .stow := by
  induction l with
  | nil => intro e mem; cases mem
  | cons x xs ih =>
    unfold victimOf at none
    split at none
    · split at none <;> cases none
    · next rest =>
      split at none
      · next stow =>
        intro e mem
        rcases List.mem_cons.mp mem with rfl | old
        · exact stow
        · exact ih rest e old
      · cases none

/-- Suspensions in victim order leave the budget, the stow and the store, and make room, or leave nothing but the stow's
grants (R109, R111). -/
theorem State.suspendUntil_spec {n : Nat} (need k : Nat) (h : s.supply.Held n) (fuel : s.arb.grants.length ≤ k) :
    (s.suspendUntil need k).supply.Held n ∧ (s.suspendUntil need k).arb.meters = s.arb.meters
      ∧ (s.suspendUntil need k).aw.stowing = s.aw.stowing
      ∧ ((s.suspendUntil need k).grantSum + need ≤ s.budget ∨ (s.suspendUntil need k).grantSum ≤ n) := by
  have stowOnly : ∀ t : State, t.supply.Held n → (∀ e ∈ t.arb.grants, e.cls = .stow) → t.grantSum ≤ n := by
    intro t held all
    have every : t.supply.stowDraws = t.grantSum :=
      congrArg sumDraws (List.filter_eq_self.mpr fun e mem => by simp [all e mem])
    exact every ▸ held.stow
  induction k generalizing s with
  | zero =>
    have empty : s.arb.grants = [] := List.length_eq_zero_iff.mp (Nat.le_zero.mp fuel)
    exact ⟨h, rfl, rfl, .inr (stowOnly s h (by simp [empty]))⟩
  | succ k ih =>
    unfold State.suspendUntil
    split
    · next fits => exact ⟨h, rfl, rfl, .inl fits⟩
    · split
      · next none => exact ⟨h, rfl, rfl, .inr (stowOnly s h (victimOf_none _ none))⟩
      · next v found =>
        have supply := State.supply_suspendHolder (s := s) v
        have grants : (s.suspendHolder v).arb.grants = s.arb.grants.filter fun e => decide (e.holder ≠ v.holder) :=
          congrArg Supply.grants supply
        have meters : (s.suspendHolder v).arb.meters = s.arb.meters := (congrArg Supply.meters supply :)
        have stowing : (s.suspendHolder v).aw.stowing = s.aw.stowing := (congrArg Supply.stowing supply :)
        have fewer : (s.suspendHolder v).arb.grants.length ≤ k := by
          rw [grants]
          have : (s.arb.grants.filter fun e => decide (e.holder ≠ v.holder)).length < s.arb.grants.length :=
            List.length_filter_lt_length_iff_exists.mpr ⟨v, victimOf_mem _ _ found, by simp⟩
          omega
        have budget : (s.suspendHolder v).budget = s.budget := congrArg Meters.budget meters
        obtain ⟨held, m, st, room⟩ := ih (h.suspendHolder v (victimOf_not_stow _ _ found)) fewer
        exact ⟨held, m.trans meters, st.trans stowing, budget ▸ room⟩

/-! ## A change of the budget (R98, R99, R100, R111) -/

/-- A rise of the budget walks the list; a fall suspends until the sum fits, which the stow alone always does. -/
theorem State.fits_budgetChanged (old : Nat) (held : s.supply.Held s.supply.stowShare) (sum : s.grantSum ≤ old) :
    (s.budgetChanged old).supply.Fits := by
  unfold State.budgetChanged
  split
  · next rise => exact Supply.Fits.walkFuel ⟨held, sum.trans rise.le⟩ _
  · obtain ⟨held', meters, stowing, room⟩ := State.suspendUntil_spec 0 _ held (Nat.le_refl _)
    generalize s.suspendUntil 0 s.arb.grants.length = u at *
    have share : u.supply.stowShare = s.supply.stowShare := congrArg (fun b : Bool => if b then 40 else 0) stowing
    refine ⟨share ▸ held', ?_⟩
    show u.grantSum ≤ u.arb.meters.budget
    rw [meters]
    rcases room with fits | stowOnly
    · exact fits
    · have most : s.supply.stowShare ≤ 40 := by unfold Supply.stowShare; split <;> omega
      exact (stowOnly.trans most).trans (le_budgetOf _ _)

@[simp] theorem Supply.Fits.setLevel (h : s.supply.Fits) (n : Nat) : (s.setLevel n).supply.Fits := by
  obtain ⟨⟨awake, classes, owner, stow, draws⟩, sum⟩ := h
  exact State.fits_budgetChanged _ ⟨awake, classes, owner, stow, draws⟩ sum

@[simp] theorem Supply.Fits.rebase (h : s.supply.Fits) : s.rebase.supply.Fits := by
  obtain ⟨⟨awake, classes, owner, stow, draws⟩, sum⟩ := h
  exact State.fits_budgetChanged _ ⟨awake, classes, owner, stow, draws⟩ sum

/-! ## A stow begins (R94, R109) -/

/-- The stow's grant joins once there is room for it, with no walk. -/
theorem State.fits_requestStow (draw : Nat) (held : s.supply.Held 0) (stow : s.aw.stowing = true) (small : draw ≤ 40) :
    (s.requestStow draw).supply.Fits := by
  obtain ⟨⟨awake, classes, owner, none, draws⟩, meters, stowing, room⟩ :=
    State.suspendUntil_spec draw _ held (Nat.le_refl _)
  unfold State.requestStow
  generalize s.suspendUntil draw s.arb.grants.length = u at *
  have least : 40 ≤ s.budget := le_budgetOf _ _
  have budget : u.budget = s.budget := congrArg Meters.budget meters
  have share : u.aw.stowing = true := stowing.trans stow
  refine ⟨⟨awake, classes, fun e mem => ?_, ?_, draws⟩, ?_⟩
  · rcases List.mem_append.mp mem with old | new
    · exact owner e old
    · rw [List.mem_singleton.mp new]
      exact fun _ => rfl
  · have one : sumDraws ((u.arb.grants ++ [({ holder := .awning, cls := .stow, draw := draw } : Grant)]).filter
        fun e => decide (e.cls = .stow)) = u.supply.stowDraws + draw := by
      simp [Supply.stowDraws, State.supply, sumDraws]
    simp only [Supply.stowShare, State.supply, share, if_true]
    exact one.le.trans (by omega)
  · show sumDraws (u.arb.grants ++ _) ≤ u.budget
    rw [sumDraws_append, budget]
    show u.grantSum + draw ≤ s.budget
    omega

theorem Store.drawsOk.awning {t : Store} (h : t.drawsOk) : t.active.supply.awning.toNat ≤ 40 := by
  obtain ⟨active, -⟩ := h
  omega

/-- A stow begins with none in progress. -/
theorem Supply.Fits.beginStow (h : s.supply.Fits) (free : s.aw.stowing = false) (c : StowCause) :
    (s.beginStow c).supply.Fits := by
  obtain ⟨⟨awake, classes, owner, stow, draws⟩, sum⟩ := h
  have none : s.supply.stowDraws ≤ 0 := by simpa [Supply.stowShare, State.supply, free] using stow
  have held : (s.stowTaken c).supply.Held 0 := ⟨awake, classes, owner, none, draws⟩
  have stows : (s.stowTaken c).aw.stowing = true := rfl
  have asked := State.fits_requestStow s.awningCapture.draw held stows draws.awning
  have going : ((s.stowTaken c).requestStow s.awningCapture.draw).aw.stowing = true :=
    (State.suspendUntil_spec s.awningCapture.draw _ held (Nat.le_refl _)).2.2.1.trans stows
  rw [State.beginStow_eq]
  exact (asked.eased ((Supply.Eases.refl _).enterStowing going)).settled

end Sys2Proof.Machine
end

section
/-!
SUPPORT. The events that keep the arbiter's promise (`Supply.Fits`): the ends of the guard, the stows, the requests of the
groups, the sample set and the rest of the service.
-/

namespace Sys2Proof.Machine

open Sys2Proof

variable {s : State}

/-! ## The guard (R119 to R132) -/

theorem Supply.Fits.foldl {α : Type} (f : State → α → State) (k : ∀ t x, t.supply.Fits → (f t x).supply.Fits)
    (l : List α) (h : s.supply.Fits) : (l.foldl f s).supply.Fits := by
  induction l generalizing s with
  | nil => exact h
  | cons x l ih => exact ih (k s x h)

/-- The work of one group and the walk it owes. -/
theorem Supply.Fits.settledEases {t u : State} (h : t.supply.Fits) (e : t.supply.Eases u.supply) :
    (s.settled u).supply.Fits := (h.eased e).settled

@[simp] theorem Supply.Fits.endMoves (h : s.supply.Fits) (gs : List Group) (reason : Reason) :
    (s.endMoves gs reason).supply.Fits := by
  rw [State.endMoves_eq]
  exact h.settledEases ((Supply.Eases.refl _).endEach reason gs)

theorem Supply.Fits.settledEndGroup {t : State} (h : t.supply.Fits) (g : Group) (reason : Reason) :
    (s.settled (t.endGroup g reason)).supply.Fits := h.settledEases ((Supply.Eases.refl _).endGroup g reason)

@[simp] theorem Supply.Fits.ended (h : s.supply.Fits) (g : Group) (reason : Reason) : (s.ended g reason).supply.Fits :=
  h.settledEndGroup g reason

@[simp] theorem Supply.Fits.envelopeSample (h : s.supply.Fits) (f : Fresh) : (s.envelopeSample f).supply.Fits := by
  refine h.foldl _ (fun t g k => ?_) _
  unfold State.envelopeGroup
  split
  · exact k.settledEndGroup g _
  · exact k

theorem Supply.Fits.fireWatch (h : s.supply.Fits) (i : Nat) (u : WatchUnit) : (s.fireWatch i u).supply.Fits := by
  unfold State.fireWatch
  split
  · exact Supply.Fits.settledEndGroup (by simpa using h) _ _
  · simpa using h

@[simp] theorem Supply.Fits.watchSample (h : s.supply.Fits) (brought : State) (f : Fresh) :
    (s.watchSample brought f).supply.Fits := by
  refine h.foldl _ (fun t i k => ?_) _
  unfold State.watchUnit
  split
  · split
    · exact k.fireWatch _ _
    · exact k
  · exact k

/-! ## Stows (R92 to R96) -/

@[simp] theorem State.supply_pendStow (c : StowCause) : (s.pendStow c).supply = s.supply := by
  unfold State.pendStow
  split <;> simp

theorem Supply.Fits.stowIdle (h : s.supply.Fits) (free : s.aw.stowing = false) (c : StowCause) :
    (s.stowIdle c).supply.Fits := by
  unfold State.stowIdle
  split
  · simpa using h
  · split
    · exact h.beginStow free c
    · split
      · simpa using h
      · exact h

/-- The end of the awning's operation, settled, leaves no stow in progress. -/
theorem State.settled_endAwning_free (work : s.working .awning) (reason : Reason) :
    (s.settled (s.endAwning reason)).aw.stowing = false := by
  have closed := State.settled_over s (State.finishAwning_over s reason s.aw.known s.aw.endPos work)
  exact Awning.stowing_idle (by simpa [State.groupIdle, State.endAwning] using closed.idle)

@[simp] theorem Supply.Fits.stowDue (h : s.supply.Fits) (c : StowCause) : (s.stowDue c).supply.Fits := by
  unfold State.stowDue
  split
  · cases c with
    | wind => rw [State.recauseStow, State.supply_modAw _ _ rfl]; exact h
    | driveAway => exact h
  · next free =>
    split
    · next moves =>
      have work : s.working .awning := ((Awning.moving_iff _).mp moves).1
      exact (h.settledEndGroup .awning _).stowIdle (State.settled_endAwning_free work _) c
    · split
      · simpa using h
      · exact h.stowIdle (by simpa using free) c

@[simp] theorem Supply.Fits.driveAway (h : s.supply.Fits) : s.driveAway.supply.Fits := by
  unfold State.driveAway
  split <;> simp [h]

@[simp] theorem Supply.Fits.driveAwayCheck (h : s.supply.Fits) : s.driveAwayCheck.supply.Fits := by
  unfold State.driveAwayCheck
  split <;> simp [h]

@[simp] theorem Supply.Fits.takeUpStow (h : s.supply.Fits) : s.takeUpStow.supply.Fits := by
  unfold State.takeUpStow
  split
  · exact h
  · split
    · next taken =>
      have idle : s.aw.st = .idle := by simp_all
      split
      · simpa using h
      · exact h.beginStow (Awning.stowing_idle idle) _
    · exact h

@[simp] theorem Supply.Fits.keyEndsStow (h : s.supply.Fits) : s.keyEndsStow.supply.Fits := by
  unfold State.keyEndsStow
  split
  · rw [State.supply_setPending]
    exact h.settledEndGroup .awning _
  · exact h

/-! ## The requests of the groups -/

theorem failsIf_eq_none_iff (b : Bool) (x : Answer) : failsIf b x = none ↔ b = false := by
  cases b <;> simp [failsIf]

/-- A judged request is refused without effect, or taken with every check passed. -/
theorem Supply.Fits.judged (h : s.supply.Fits) (checks : List (Option Answer)) (taken : Answer × State)
    (k : (∀ c ∈ checks, c = none) → taken.2.supply.Fits) : (judged s checks taken).2.supply.Fits := by
  unfold Machine.judged
  split
  · exact h
  · next pass => exact k (by simpa [firstFailure, List.findSome?_eq_none_iff] using pass)

@[simp] theorem Supply.Fits.askPump (h : s.supply.Fits) : s.askPump.supply.Fits := by
  have asked := h.requestSupply .jacks .levelling s.jk.cap.draw (by decide)
  unfold State.askPump
  dsimp only
  split
  · simpa using asked
  · exact asked

@[simp] theorem Supply.Fits.enterTouchdown (h : s.supply.Fits) : s.enterTouchdown.supply.Fits := by
  simp [State.enterTouchdown, h]

@[simp] theorem Supply.Fits.airDumpIfReady (h : s.supply.Fits) : s.airDumpIfReady.supply.Fits := by
  unfold State.airDumpIfReady
  split <;> simp [h]

@[simp] theorem State.supply_takeJacks (w : JackWork) : (s.takeJacks w).supply = s.supply := by
  rw [State.takeJacks, State.supply_with_jk, State.supply_claimJacks, State.supply_clearPeaks]

@[simp] theorem Supply.Fits.startLevel (h : s.supply.Fits) : s.startLevel.supply.Fits := by
  unfold State.startLevel
  dsimp only
  split <;> simp [h]

theorem Supply.Fits.startJog (h : s.supply.Fits) (j : JackId) (v : Half) : (s.startJog j v).supply.Fits := by
  unfold State.startJog
  dsimp only
  split <;> simp [h]

theorem Supply.Fits.startRoom (h : s.supply.Fits) (r : RoomId) (home : Bool) (t : Target) :
    (s.startRoom r home t).supply.Fits := by
  unfold State.startRoom
  split
  · unfold State.roomAtOnce
    dsimp only
    split <;> simpa using h
  · have taken : (s.takeRoom r home t).supply = s.supply := by simp [State.takeRoom]
    exact Supply.Fits.requestSupply (taken ▸ h) _ _ _ (by decide)

/-- A MOVE or HOME of an idle awning (R84). -/
theorem Supply.Fits.startAwning (h : s.supply.Fits) (idle : s.aw.st = .idle) (op : AwningOp) (t : Target) (extend : Bool) :
    (s.startAwning op t extend).supply.Fits := by
  unfold State.startAwning
  split
  · unfold State.awningAtOnce
    dsimp only
    rw [State.supply_recordEnd, State.supply_modAw _ _ rfl]
    split <;> simpa using h
  · have taken : (s.takeAwning op t extend).supply = s.supply := by
      rw [State.takeAwning, State.supply_modAw, State.supply_clearPeaks]
      exact (Awning.stowing_idle idle).symm
    have asked := Supply.Fits.requestSupply (taken ▸ h) .awning .awning (s.takeAwning op t extend).aw.cap.draw (by decide)
    unfold State.askAwning
    dsimp only
    split
    · rw [State.supply_modAw _ _ rfl]
      exact asked
    · exact asked

theorem Supply.Fits.onRoomMove (h : s.supply.Fits) (r : RoomId) (e : EndCode) (v : Half) :
    (s.onRoomMove r e v).2.supply.Fits := h.judged _ _ fun _ => (h.startRoom r _ _).settled

theorem Supply.Fits.onRoomHome (h : s.supply.Fits) (r : RoomId) : (s.onRoomHome r).2.supply.Fits :=
  h.judged _ _ fun _ => (h.startRoom r _ _).settled

theorem State.idle_of_awningBusy (pass : s.awningBusy = none) : s.aw.st = .idle := by
  simpa [State.awningBusy, failsIf_eq_none_iff] using pass

theorem Supply.Fits.onAwningMove (h : s.supply.Fits) (e : EndCode) (v : Half) : (s.onAwningMove e v).2.supply.Fits :=
  h.judged _ _ fun pass => (h.startAwning (State.idle_of_awningBusy (pass _ (by simp))) _ _ _).settled

theorem Supply.Fits.onAwningHome (h : s.supply.Fits) : s.onAwningHome.2.supply.Fits :=
  h.judged _ _ fun pass => (h.startAwning (State.idle_of_awningBusy (pass _ (by simp))) _ _ _).settled

theorem Supply.Fits.onJog (h : s.supply.Fits) (j : JackId) (v : Half) : (s.onJog j v).2.supply.Fits :=
  h.judged _ _ fun _ => (h.startJog j v).settled

theorem Supply.Fits.onLevelAuto (h : s.supply.Fits) : s.onLevelAuto.2.supply.Fits :=
  h.judged _ _ fun _ => h.startLevel.settled

theorem Supply.Fits.onLevelStow (h : s.supply.Fits) : s.onLevelStow.2.supply.Fits := by
  refine h.judged _ _ fun _ => Supply.Fits.settled ?_
  split
  · simpa [State.stowAtOnce] using h
  · simp [h]

theorem Supply.Fits.onHold (h : s.supply.Fits) (mask : Byte) : (s.onHold mask).2.supply.Fits := by
  suffices steps : ∀ (l : List Group) (p : Nat × State), p.2.supply.Fits → (l.foldl holdStep p).2.supply.Fits from
    steps _ _ h
  intro l
  induction l with
  | nil => exact fun _ k => k
  | cons g l ih =>
    refine fun p k => ih _ (k.settledEases ?_)
    cases g <;> simp only [State.holdGroup] <;> (try split) <;> simp

theorem Supply.Fits.onStop (h : s.supply.Fits) (mask : Byte) : (s.onStop mask).2.supply.Fits := h.endMoves _ _

theorem Supply.Fits.unfreezeOp (h : s.supply.Fits) (g : Group) : (s.unfreezeOp g).supply.Fits := by
  cases g with
  | jacks =>
    simp only [State.unfreezeOp]
    split
    · exact (h.eased (Supply.Eases.refl _).unfreezeJacks).airDumpIfReady
    · exact h
  | room r =>
    simp only [State.unfreezeOp]
    split
    · exact h.eased ((Supply.Eases.refl _).unfreezeRoom r)
    · exact h
  | awning =>
    simp only [State.unfreezeOp]
    split
    · exact (h.eased (Supply.Eases.refl _).unfreezeAwning).takeUpStow
    · exact h.takeUpStow

theorem Supply.Fits.onResume (h : s.supply.Fits) (mask : Byte) : (s.onResume mask).2.supply.Fits := by
  refine h.foldl _ (fun t g k => ?_) _
  unfold State.resumeGroup
  split
  · exact (Supply.Fits.unfreezeOp (by simpa using k) g).settled
  · exact k

/-! ## The circuit test (R149, R152) -/

theorem Supply.Fits.onCircuitTest (h : s.supply.Fits) (c : ChannelId) : (s.onCircuitTest c).2.supply.Fits := by
  refine h.judged _ _ fun pass => ?_
  have idle : s.groupIdle c.owner = true := by
    have := pass (failsIf (!s.groupIdle c.owner || s.test.isSome) .busy) (by simp)
    rw [failsIf_eq_none_iff] at this
    simp_all
  have entered : (s.enterTesting c.owner).supply = s.supply := by
    generalize c.owner = g at idle
    cases g with
    | jacks => simp only [State.enterTesting]; split <;> simp
    | room r => simp [State.enterTesting]
    | awning =>
      rw [State.enterTesting, State.supply_modAw]
      exact (Awning.stowing_idle (by simpa [State.groupIdle] using idle)).symm
  show (s.startTest c).supply.Fits
  rw [State.startTest, State.supply_restance, State.supply_with_test, State.supply_setChan, entered]
  exact h

@[simp] theorem State.supply_leaveTesting (g : Group) : (s.leaveTesting g).supply = s.supply := by
  cases g with
  | jacks => simp only [State.leaveTesting]; split <;> simp
  | room r => simp only [State.leaveTesting]; split <;> simp
  | awning =>
    simp only [State.leaveTesting]
    split
    · next testing =>
      rw [State.supply_modAw]
      exact Awning.stowing_of_st (by rw [testing]; rfl)
    · rfl

theorem Supply.Fits.completeTest (h : s.supply.Fits) (t : CircuitTest) (x y : TestReading) :
    (s.completeTest t x y).supply.Fits := by
  unfold State.completeTest
  dsimp only
  obtain ⟨v, health⟩ : ∃ v, s.health.set t.chan ((s.health.get t.chan).afterTest (judgeTest t.chan (s.volts 1100) x y)) = v :=
    ⟨_, rfl⟩
  have same : ({ s with health := v, test := none } : State).supply = s.supply := State.supply_of_parts rfl rfl rfl rfl
  rw [health]
  split <;> simp [same, h]

/-! ## The store (R174 to R179) -/

theorem setItem_awning_le {x : Settings} {group item : Nat} {v : Int} (within : x.supply.awning ≤ 40)
    (ok : (StoreJob.item group item v).drawOk = true) : (setItem x group item v).supply.awning ≤ 40 := by
  unfold setItem
  split
  all_goals try exact within
  · split <;> exact within
  · simpa [StoreJob.drawOk] using ok

theorem Store.drawsOk.applied {t : Store} (h : t.drawsOk) (j : StoreJob) (ok : j.drawOk = true) :
    (t.applied j).active.supply.awning ≤ 40 ∧ (t.applied j).stored.supply.awning ≤ 40 := by
  obtain ⟨active, stored, -⟩ := h
  cases j with
  | item g i v => exact ⟨setItem_awning_le active ok, setItem_awning_le stored ok⟩
  | _ => exact ⟨active, stored⟩

/-- A completed write leaves none in flight (R175). -/
theorem Store.drawsOk.completed {t : Store} (h : t.drawsOk) : t.completed.drawsOk := by
  unfold Store.completed
  split
  · next p job =>
    obtain ⟨active, stored⟩ := h.applied p.1 (h.2.2 p.1 p.2 job)
    exact ⟨active, stored, fun j n e => by cases e⟩
  · exact h

/-- The copies that a start-up loads (R176). -/
theorem Store.loaded_awning_le {t : Store} (h : t.stored.supply.awning ≤ 40) : t.loaded.supply.awning ≤ 40 := by
  unfold Store.loaded mixSettings
  dsimp only
  split
  · decide
  · exact h

theorem Store.drawsOk.checked {t : Store} (h : t.drawsOk) : t.checked.drawsOk := by
  obtain ⟨-, stored, -⟩ := h
  refine ⟨Store.loaded_awning_le stored, ?_, fun j n e => by cases e⟩
  unfold Store.checked mixSettings
  dsimp only
  split
  · decide
  · exact stored

theorem Store.drawsOk.reloaded {t : Store} (h : t.drawsOk) : t.reloaded.drawsOk := by
  obtain ⟨-, stored, job⟩ := h.completed
  exact ⟨Store.loaded_awning_le stored, stored, job⟩

theorem Store.drawsOk.afterLoss {t : Store} (h : t.drawsOk) (torn : TornTables) : (t.afterLoss torn).drawsOk := by
  obtain ⟨-, stored, -⟩ := h
  exact ⟨(by decide : Config.factory.supply.awning ≤ 40), stored, fun j n e => by cases e⟩

/-- Another store, whose draws are in range too. -/
theorem Supply.Fits.withStore (h : s.supply.Fits) (t : Store) (draws : t.drawsOk) :
    ({ s with store := t } : State).supply.Fits := h.of_parts h.awake rfl rfl rfl rfl rfl draws

theorem Supply.Fits.startStore (h : s.supply.Fits) (j : StoreJob) (ok : j.drawOk = true) : (s.startStore j).supply.Fits := by
  obtain ⟨active, stored, -⟩ := h.held.draws
  exact h.withStore _ ⟨active, stored, fun k n e => by cases e; exact ok⟩

theorem Supply.Fits.storeDone (h : s.supply.Fits) (j : StoreJob) : (s.storeDone j).supply.Fits := by
  have done := h.withStore s.store.completed h.held.draws.completed
  unfold State.storeDone
  dsimp only
  split
  · simpa using done
  · exact done

/-- The awning's draw is written within its range (R174, R175). -/
theorem drawOk_clampItem (group item : Nat) (v : Int) : (StoreJob.item group item (clampItem group item v)).drawOk = true := by
  unfold StoreJob.drawOk
  split
  · next same =>
    cases same
    simp [clampItem, itemRange, clampInt]
  · rfl

theorem Supply.Fits.onWriteSetting (h : s.supply.Fits) (group item : Byte) (v : Half) :
    (s.onWriteSetting group item v).2.supply.Fits := by
  unfold State.onWriteSetting
  dsimp only
  split
  · exact h
  · exact h.judged _ _ fun _ => h.startStore _ (drawOk_clampItem _ _ _)

theorem Supply.Fits.onStoreTables (h : s.supply.Fits) : s.onStoreTables.2.supply.Fits :=
  h.judged _ _ fun _ => h.startStore _ rfl

theorem Supply.Fits.onLockCalibration (h : s.supply.Fits) (group : Byte) : (s.onLockCalibration group).2.supply.Fits := by
  refine h.judged _ _ fun _ => ?_
  dsimp only
  split
  · exact h
  · exact h.startStore _ rfl

theorem Supply.Fits.onZeroTilt (h : s.supply.Fits) : s.onZeroTilt.2.supply.Fits :=
  h.judged _ _ fun _ => h.startStore _ rfl

/-! ## A request of any owner (9.5) -/

/-- A request that reports, or writes outside the arbiter, the awning and the store. -/
theorem Supply.Fits.judgedSame (h : s.supply.Fits) (checks : List (Option Answer)) (taken : Answer × State)
    (same : taken.2.supply = s.supply) : (Machine.judged s checks taken).2.supply.Fits := h.judged _ _ fun _ => same ▸ h

theorem Supply.Fits.onReadSetting (h : s.supply.Fits) (group item : Byte) : (s.onReadSetting group item).2.supply.Fits := by
  unfold State.onReadSetting
  split
  · exact h
  · exact h.judgedSame _ _ rfl

theorem Supply.Fits.onReadLevelResult (h : s.supply.Fits) (p : LevelPart) : (s.onReadLevelResult p).2.supply.Fits := by
  unfold State.onReadLevelResult
  split <;> exact h

/-- Awake, every request keeps the promise; a WAKE has no effect then (R183). -/
theorem Supply.Fits.handle (h : s.supply.Fits) (x : SampleSet) (q : Request) : (s.handle x q).2.supply.Fits := by
  cases q with
  | roomMove r e v => exact h.onRoomMove r e v
  | jog j v => exact h.onJog j v
  | awningMove e v => exact h.onAwningMove e v
  | hold m => exact h.onHold m
  | stop m => exact h.onStop m
  | roomHome r => exact h.onRoomHome r
  | awningHome => exact h.onAwningHome
  | levelAuto => exact h.onLevelAuto
  | levelStow => exact h.onLevelStow
  | resume m => exact h.onResume m
  | readGroup g => exact h.judgedSame _ _ rfl
  | readStopRecord g => exact h.judgedSame _ _ rfl
  | readLevelResult p => exact h.onReadLevelResult p
  | writeEnvelope i c => exact h.judgedSame _ _ (State.supply_with_guard s _)
  | writeWatch i c => exact h.judgedSame _ _ (State.supply_with_guard s _)
  | storeTables => exact h.onStoreTables
  | circuitTest c => exact h.onCircuitTest c
  | readSetting g i => exact h.onReadSetting g i
  | writeSetting g i v => exact h.onWriteSetting g i v
  | lockCalibration g => exact h.onLockCalibration g
  | zeroTilt => exact h.onZeroTilt
  | dormant => exact h.judgedSame _ _ (State.supply_with_link s _)
  | wake =>
    have awake : s.onWake x = (.ok [], s) := by simp [State.onWake, h.awake]
    rw [State.handle, awake]
    exact h
  | _ => exact h

end Sys2Proof.Machine
end

section
/-!
PROOFS. Every step keeps the draws granted within the budget (O57): the sample set, power control, and the rows of the table.
-/

namespace Sys2Proof.Machine

open Sys2Proof

variable {s : State}

/-! ## Time and sample sets (0.5, R3) -/

@[simp] theorem Supply.Fits.pass (h : s.supply.Fits) (d : Nat) : (s.pass d).supply.Fits := by
  refine h.of_parts h.awake rfl rfl rfl rfl rfl ?_
  obtain ⟨active, stored, job⟩ := h.held.draws
  refine ⟨active, stored, fun j n e => ?_⟩
  obtain ⟨p, old, new⟩ := Option.map_eq_some_iff.mp e
  cases new
  exact job p.1 p.2 old

/-- The arbiter's sample of the battery moves its measurements only (R99 to R102). -/
@[simp] theorem Supply.Fits.voltageSample (h : s.supply.Fits) : s.voltageSample.supply.Fits :=
  h.of_parts h.awake rfl rfl rfl rfl rfl h.held.draws

@[simp] theorem Supply.Fits.tellInStop (h : s.supply.Fits) (r : RoomId) (d : Drive) (made : Bool) :
    (s.tellInStop r d made).supply.Fits := by
  unfold State.tellInStop
  split
  · exact h.settledEases ((Supply.Eases.refl _).inStop r d made)
  · exact h

@[simp] theorem Supply.Fits.tellPin (h : s.supply.Fits) (r : RoomId) (p : PinState) : (s.tellPin r p).supply.Fits := by
  unfold State.tellPin
  split
  · exact h.settledEases ((Supply.Eases.refl _).pinChange r p)
  · exact h

@[simp] theorem Supply.Fits.tellStowed (h : s.supply.Fits) (made : Bool) : (s.tellStowed made).supply.Fits := by
  unfold State.tellStowed
  split
  · refine h.settledEases ?_
    cases made
    · exact (Supply.Eases.refl _).stowedOpen
    · exact (Supply.Eases.refl _).stowedMade
  · exact h

/-- Every receiver of a set keeps the promise. -/
theorem Supply.Fits.consume (h : s.supply.Fits) (brought : State) (faults : SampleFaults) (f : Fresh) (c : Consumer) :
    (State.consume brought faults f s c).supply.Fits := by
  cases c with
  | levelling => exact h.settledEases ((Supply.Eases.refl _).jackSample faults f.tilt)
  | room r =>
    simp only [State.consume]
    split
    · exact h.settledEases ((Supply.Eases.refl _).roomSample r)
    · exact h
  | awning =>
    simp only [State.consume]
    split
    · exact h.settledEases (Supply.Eases.refl _).awningSample
    · exact h
  | watches => exact h.watchSample brought f
  | envelope => exact h.envelopeSample f
  | arbiter => exact h.voltageSample
  | inStop r d => exact h.tellInStop r d _
  | pin r => exact h.tellPin r _
  | stowedSwitch => exact h.tellStowed _

theorem Supply.Fits.handSet (h : s.supply.Fits) (x : SampleSet) (order : List Consumer) :
    (s.handSet x order).supply.Fits := by
  unfold State.handSet
  dsimp only
  rw [State.supply_restance]
  refine Supply.Fits.foldl _ (fun t c k => k.consume _ _ _ c) _ ?_
  simpa [State.takeSet] using h

theorem Supply.Fits.sampleDue (h : s.supply.Fits) : s.sampleDue.supply.Fits := by
  simp [State.sampleDue, h]

theorem Supply.Fits.clearFault (h : s.supply.Fits) (j : JackId) : (s.clearFault j).supply.Fits := by
  unfold State.clearFault
  dsimp only
  rw [State.supply_restance]
  exact ((by simpa using h : Supply.Fits _).watchSample _ _).envelopeSample _

/-! ## Power control (R181 to R185) -/

/-- The last steps of a start-up, on blocks that fit. -/
theorem Supply.Fits.started (h : s.supply.Fits) (b : Bool) : (s.started b).supply.Fits := by
  have checked : s.restance.driveAwayCheck.restance.supply.Fits := by simp [h]
  unfold State.started
  dsimp only
  exact checked.of_parts checked.awake rfl rfl rfl rfl rfl checked.held.draws

/-- Awake with nothing granted. -/
theorem State.fits_of_nothing (awake : s.power = .awake) (classes : ∀ e ∈ s.arb.waiting, e.cls ≠ .stow)
    (nothing : s.arb.grants = []) (draws : s.store.drawsOk) : s.supply.Fits := by
  have grants : s.supply.grants = [] := nothing
  refine ⟨⟨awake, classes, fun e mem => ?_, ?_, draws⟩, ?_⟩
  · rw [grants] at mem
    cases mem
  · simp [Supply.stowDraws, grants, sumDraws]
  · simp [grants, sumDraws]

/-- A start-up begins with nothing granted and nothing waiting (R115). -/
theorem State.fits_blocks (keep : Bool) (t : Straps) (st : Store) (raw : RawInputs) (x : SampleSet) (draws : st.drawsOk) :
    (s.blocks keep t st raw x).supply.Fits := by
  have waiting : (s.blocks keep t st raw x).arb.waiting = [] := rfl
  exact State.fits_of_nothing rfl (by simp [waiting]) rfl draws

theorem State.fits_powerUp (draws : s.store.drawsOk) (pins : StrapPins) (raw : RawInputs) (x : SampleSet) :
    (s.powerUp pins raw x).supply.Fits := (State.fits_blocks _ _ _ _ _ (draws.afterLoss _).checked).started _

theorem State.fits_softReset (draws : s.store.drawsOk) (raw : RawInputs) (x : SampleSet) :
    (s.softReset raw x).supply.Fits := (State.fits_blocks _ _ _ _ _ draws.reloaded).started _

/-- A part that wakes, with the base of its inputs (R183). -/
def State.risen (s : State) : State :=
  { s with power := .awake, clock := s.clock.atWakeSet, arb := { s.arb with base := s.inputBase } }

/-- Its first set, with the checks of the rooms and of the awning (R54, R82, R183). -/
def State.roused (s : State) (x : SampleSet) : State :=
  let t := (s.presentRooms.foldl State.wakeRoom (s.wakeSet x)).wakeAwning.noStow
  ({ t with wind := { t.wind with quiet := 0 } } : State).restance

theorem State.wakeUp_eq (s : State) (x : SampleSet) : s.wakeUp x =
    ((((s.risen.roused x).settled ((s.risen.roused x).jackSample (setFaults s.risen (s.risen.roused x) x) false)).watchSample
      (s.risen.roused x) (setFresh (s.risen.roused x) x)).voltageSample.restance.driveAwayCheck.restance).joinSupervision
        SupCauses.addWake := rfl

theorem State.supply_roused (x : SampleSet) : (s.roused x).supply = s.supply := by
  have rooms : (s.presentRooms.foldl State.wakeRoom (s.wakeSet x)).supply = s.supply := by
    rw [State.supply_foldl _ fun t r => by unfold State.wakeRoom; dsimp only; split <;> simp]
    simp [State.wakeSet, State.takeSet]
  have awning : ∀ t : State, t.wakeAwning.supply = t.supply := fun t => by
    unfold State.wakeAwning
    split
    · exact State.supply_modAw _ _ rfl
    · rfl
  rw [State.roused, State.supply_restance, State.supply_with_wind, State.noStow, State.supply_modAw _ _ rfl, awning, rooms]

/-- The part that wakes takes up its base with nothing granted (R182, R183). -/
theorem State.fits_wakeUp (h : s.supplyFits) (dormant : s.power ≠ .awake) (x : SampleSet) : (s.wakeUp x).supply.Fits := by
  obtain ⟨-, classes, -, draws, nothing⟩ := h
  have risen : s.risen.supply.Fits := State.fits_of_nothing rfl classes (nothing dormant) draws
  have roused : (s.risen.roused x).supply.Fits := (State.supply_roused x).symm ▸ risen
  have taken := (roused.settledEases ((Supply.Eases.refl _).jackSample (setFaults s.risen (s.risen.roused x) x) false)
    (s := s.risen.roused x)).watchSample (s.risen.roused x) (setFresh (s.risen.roused x) x)
  rw [State.wakeUp_eq]
  simp [taken]

theorem Supply.Fits.sentWhole (h : s.supply.Fits) (f : SentFrame) (raw : RawInputs) (x : SampleSet) :
    (s.sentWhole f raw x).supplyFits := by
  unfold State.sentWhole
  split
  · split
    · next rest =>
      have nothing : s.arb.grants = [] := by
        simp only [State.mayRest, State.allIdle, Bool.and_eq_true, List.isEmpty_iff] at rest
        tauto
      obtain ⟨sum, classes, stow, draws, -⟩ := h.supplyFits
      exact ⟨sum, classes, stow, draws, fun _ => nothing⟩
    · exact h.supplyFits
  · exact (State.fits_softReset h.held.draws raw x).supplyFits
  · exact h.supplyFits

/-! ## Rows (R164 to R168) -/

/-- The statement's promise looks at the supply alone. -/
theorem State.supplyFits_of_supply {t : State} (h : s.supplyFits) (e : t.supply = s.supply) : t.supplyFits := by
  have power : t.power = s.power := congrArg Supply.power e
  by_cases awake : s.power = .awake
  · have fits := (State.fits_iff awake).mpr h
    rw [← e] at fits
    exact fits.supplyFits
  · obtain ⟨sum, classes, ⟨owner, stow⟩, draws, nothing⟩ := h
    have grants : t.arb.grants = [] := (congrArg Supply.grants e).trans (nothing awake)
    have waiting : t.arb.waiting = s.arb.waiting := congrArg Supply.waiting e
    have store : t.store = s.store := congrArg Supply.store e
    refine ⟨?_, waiting ▸ classes, ⟨?_, ?_⟩, store ▸ draws, fun _ => grants⟩ <;> simp [State.grantSum, grants, sumDraws]

@[simp] theorem State.supply_kick : s.kick.supply = s.supply := by
  obtain ⟨l, eq, -⟩ := State.kick_link s
  rw [eq, State.supply_with_link]

/-- A row has an outcome that keeps the promise. -/
def keepsBudget (o : Host.Outcome State Fault Refusal) : Prop := ∃ t, o = .next t ∧ t.supplyFits

theorem State.supplyFits.ifOn {u : State} (h : s.supplyFits) (k : s.power ≠ .off → u.supplyFits) :
    keepsBudget (s.ifOn u) := by
  by_cases off : s.power = .off
  · exact ⟨s, State.ifOn_off s u off, h⟩
  · exact ⟨u.kick, State.ifOn_on s u off, State.supplyFits_of_supply (k off) State.supply_kick⟩

theorem State.supplyFits.ifAwake {u : State} (h : s.supplyFits) (k : s.supply.Fits → u.supply.Fits) :
    keepsBudget (s.ifAwake u) := by
  by_cases awake : s.power = .awake
  · have fits := k ((State.fits_iff awake).mpr h)
    exact ⟨u.kick, State.ifAwake_awake s u awake, State.supplyFits_of_supply fits.supplyFits State.supply_kick⟩
  · exact ⟨s, State.ifAwake_other s u awake, h⟩

/-- WAKE works on a dormant part alone (R183). -/
theorem State.supplyFits.onWake (h : s.supplyFits) (x : SampleSet) : (s.onWake x).2.supplyFits := by
  unfold State.onWake
  split
  · next dormant =>
    have fits := State.fits_wakeUp h (by simp [dormant]) x
    dsimp only
    exact fits.supplyFits
  · exact h

/-- What a dormant part takes keeps the promise too (R182). -/
theorem State.supplyFits.handleDormant (h : s.supplyFits) (x : SampleSet) (q : Request) (ok : Request.dormantOk q = true) :
    (s.handle x q).2.supplyFits := by
  cases q with
  | identify => exact h
  | wake => exact h.onWake x
  | _ => cases ok

theorem State.supplyFits.handle (h : s.supplyFits) (x : SampleSet) (q : Request)
    (heard : s.power = .awake ∨ Request.dormantOk q = true) : (s.handle x q).2.supplyFits := by
  rcases heard with awake | ok
  · exact (((State.fits_iff awake).mpr h).handle x q).supplyFits
  · exact h.handleDormant x q ok

/-- A request row of the table. -/
theorem State.supplyFits.asks (h : s.supplyFits) (tag : Byte) (x : SampleSet) (q : Request) :
    keepsBudget (s.ifOn (s.asked tag q (s.handle x q))) := by
  refine h.ifOn fun _ => ?_
  unfold State.asked
  split
  · next may =>
    have heard : s.power = .awake ∨ Request.dormantOk q = true := by
      simp only [State.mayTake, Bool.and_eq_true, Bool.or_eq_true, decide_eq_true_eq] at may
      tauto
    refine State.supplyFits_of_supply ?_ (State.supply_putReply _ _)
    split
    · exact h.handle x q heard
    · exact h
  · exact h

/-- A kind without arguments has one request (9.5, R169). -/
theorem eq_of_decode_bare {kind : Nat} {payload : List Byte} {p q : Request} (bare : payloadLength kind = some 0)
    (meaning : decodeArguments kind [] = some p) (decoded : decodeRequest kind payload = .ok q) : q = p := by
  unfold decodeRequest at decoded
  rw [bare] at decoded
  cases payload with
  | nil =>
    simp only [meaning, List.length_nil, ne_eq, not_true_eq_false, if_false] at decoded
    split at decoded <;> cases decoded
    rfl
  | cons b bs => simp at decoded

/-- The kinds that a dormant part hears are IDENTIFY and WAKE (R165). -/
theorem dormantOk_of_decode {kind : Byte} {payload : List Byte} {q : Request} (heard : dormantKind kind = true)
    (decoded : decodeRequest kind.toNat payload = .ok q) : Request.dormantOk q = true := by
  have two : kind = 0x01 ∨ kind = 0x61 := by simpa [dormantKind] using heard
  rcases two with rfl | rfl
  · rw [eq_of_decode_bare (p := .identify) (by decide) rfl decoded]
    rfl
  · rw [eq_of_decode_bare (p := .wake) (by decide) rfl decoded]
    rfl

/-- The head of the queue, taken (R167). -/
theorem State.supplyFits.takeHead (h : s.supplyFits) (x : SampleSet) : (s.takeHead x).supplyFits := by
  unfold State.takeHead
  split
  · exact h
  · next f rest _ =>
    split
    · next may =>
      have heard : s.power = .awake ∨ dormantKind f.kind = true := by
        simp only [Bool.and_eq_true, Bool.or_eq_true, decide_eq_true_eq] at may
        tauto
      have popped : ({ s with link := { s.link with queue := rest } } : State).supplyFits :=
        State.supplyFits_of_supply h (State.supply_with_link s _)
      unfold State.takeFrame
      split
      · exact State.supplyFits_of_supply popped (State.supply_putReply _ _)
      · next q decoded =>
        refine State.supplyFits_of_supply ?_ (State.supply_putReply _ _)
        exact popped.handle x q (heard.imp id fun k => dormantOk_of_decode k decoded)
    · exact h

/-! ## The receiver (R164, R165) -/

@[simp] theorem State.supply_framingFault : s.framingFault.supply = s.supply := State.supply_with_link s _

@[simp] theorem State.supply_offer (f : RequestFrame) : (s.offer f).supply = s.supply := by
  unfold State.offer
  repeat' split
  all_goals simp

@[simp] theorem State.supply_hear (b : Byte) : (s.hear b).supply = s.supply := by
  unfold State.hear State.judgeFrame
  dsimp only
  repeat' split
  all_goals simp

@[simp] theorem State.supply_hearAll (l : List Byte) : (s.hearAll l).supply = s.supply :=
  State.supply_foldl _ (fun _ _ => State.supply_hear _) _ _

@[simp] theorem State.supply_breakFrame : s.breakFrame.supply = s.supply := by
  unfold State.breakFrame
  split <;> simp

@[simp] theorem State.supply_hearFault (c : FramingCause) : (s.hearFault c).supply = s.supply := by
  cases c <;> simp [State.hearFault]

theorem State.supplyFits.transmitted (h : s.supplyFits) (raw : RawInputs) (x : SampleSet) :
    (s.transmitted raw x).supplyFits := by
  unfold State.transmitted
  split
  · exact h
  · next f _ =>
    have sent : ({ s with link := { s.link with tx := none } } : State).supplyFits :=
      State.supplyFits_of_supply h (State.supply_with_link s _)
    by_cases awake : s.power = .awake
    · exact ((State.fits_iff (s := { s with link := { s.link with tx := none } }) awake).mpr sent).sentWhole f raw x
    · have nothing : ({ s with link := { s.link with tx := none } } : State).sentWhole f raw x
          = { s with link := { s.link with tx := none } } := by
        unfold State.sentWhole
        split
        · next p _ => exact absurd p awake
        · next p _ => exact absurd p awake
        · rfl
      rw [nothing]
      exact sent

/-! ## Chassis inputs (R15, R98, R119, R120) -/

/-- An input row whose delivery keeps the promise. -/
theorem State.supplyFits.changes (h : s.supplyFits) (happens : Bool) (i : Inputs) (deliver : State → State)
    (k : ∀ t, t.supply.Fits → (deliver t).supply.Fits) : keepsBudget (s.ifOn (s.changeInput happens i deliver)) := by
  refine h.ifOn fun _ => ?_
  have set : (s.setInputs i).supplyFits := State.supplyFits_of_supply h (State.supply_setInputs s i)
  unfold State.changeInput
  split
  · split
    · next awake => exact (k _ ((State.fits_iff (s := s.setInputs i) awake).mpr set)).supplyFits
    · exact set
  · exact h

theorem Supply.Fits.brakeLost (h : s.supply.Fits) : s.brakeLost.supply.Fits := by simp [State.brakeLost, h]

theorem Supply.Fits.ignitionGained (h : s.supply.Fits) : s.ignitionGained.supply.Fits := by
  unfold State.ignitionGained
  dsimp only
  have seen : ({ s with link := { s.link with ignitionSeen := true } } : State).supply.Fits := by simpa using h
  refine Supply.Fits.driveAway ?_
  split
  · exact seen.settledEndGroup .awning _
  · exact seen

theorem State.supplyFits.ignitionOn (h : s.supplyFits) (x : SampleSet) : keepsBudget (execIgnitionOn x s) := by
  unfold execIgnitionOn
  dsimp only
  split
  · next dormant =>
    refine h.ifOn fun _ => ?_
    split
    · have set := State.supplyFits_of_supply h
        (State.supply_setInputs s { s.inputs with ignition := s.inputs.ignition.becomesHigh true })
      exact (State.fits_wakeUp set (fun awake => by simp [dormant] at awake) x).supplyFits
    · exact h
  · exact h.changes _ _ _ fun _ k => k.ignitionGained

theorem Supply.Fits.airChanged (h : s.supply.Fits) : s.airChanged.supply.Fits := by
  unfold State.airChanged
  repeat' split
  · exact h
  · exact h.airDumpIfReady.settled
  · exact h.settledEndGroup .jacks _
  · exact h

theorem Supply.Fits.keyGained (h : s.supply.Fits) : s.keyGained.supply.Fits := by simp [State.keyGained, h]

/-! ## Channels, timers and measurements -/

theorem Supply.Fits.channelFault (h : s.supply.Fits) (c : ChannelId) (x : HealthClass) :
    (s.channelFault c x).supply.Fits := by
  unfold State.channelFault
  dsimp only
  refine Supply.Fits.settledEndGroup ?_ _ _
  split <;> simp [h]

/-- A timer's command, whose work keeps the promise. -/
theorem Supply.Fits.expire (h : s.supply.Fits) (left : Option Nat) (f : State → State)
    (k : ∀ t, t.supply.Fits → (f t).supply.Fits) : (s.expire left f).supply.Fits := by
  unfold State.expire
  split
  · exact k _ (h.pass _)
  · exact h

theorem Supply.Fits.windBlows (h : s.supply.Fits) (came : Bool) : (s.windBlows came).supply.Fits := by
  obtain ⟨u, joins⟩ : ∃ u, s.joinSupervision SupCauses.addWind = u := ⟨_, rfl⟩
  have joined : u.supply.Fits := by rw [← joins]; simpa using h
  obtain ⟨v, falls⟩ : ∃ v, (if !u.stowed then u.stowDue .wind else u) = v := ⟨_, rfl⟩
  have due : v.supply.Fits := by
    rw [← falls]
    split
    · exact joined.stowDue _
    · exact joined
  unfold State.windBlows
  rw [joins]
  dsimp only
  rw [falls]
  split
  · exact due.settledEndGroup .awning _
  · exact due

theorem Supply.Fits.windWindow (h : s.supply.Fits) : s.windWindow.supply.Fits := by
  obtain ⟨u, reads⟩ : ∃ u, ({ s with wind := s.wind.window s.windSpeed, fe := { s.fe with pulses := 0 } } : State) = u :=
    ⟨_, rfl⟩
  have read : u.supply.Fits := by
    have same : u.supply = s.supply := by rw [← reads]; exact State.supply_of_parts rfl rfl rfl rfl
    exact same ▸ h
  have watched := read.watchSample u .windOnly
  unfold State.windWindow
  rw [reads]
  dsimp only
  split
  · exact Supply.Fits.windBlows (by simpa using watched) _
  · simpa using watched

theorem Supply.Fits.modArb (h : s.supply.Fits) (f : Arbiter → Arbiter) (base : (f s.arb).base = s.arb.base)
    (level : (f s.arb).level = s.arb.level) (grants : (f s.arb).grants = s.arb.grants)
    (waiting : (f s.arb).waiting = s.arb.waiting) : (s.modArb f).supply.Fits :=
  h.of_parts h.awake base level grants waiting rfl h.held.draws

theorem Supply.Fits.sagged (h : s.supply.Fits) : s.sagged.supply.Fits := by
  have restarted := h.modArb (fun a => { a with sagRun := 1 }) rfl rfl rfl rfl
  unfold State.sagged
  dsimp only
  split
  · exact (Supply.Fits.setLevel (by simpa using restarted) _).settled
  · exact restarted

theorem Supply.Fits.recovered (h : s.supply.Fits) : s.recovered.supply.Fits := by
  have restarted := h.modArb (fun a => { a with recRun := 1 }) rfl rfl rfl rfl
  unfold State.recovered
  dsimp only
  split
  · exact (restarted.setLevel _).settled
  · exact restarted

theorem Supply.Fits.lowEntered (h : s.supply.Fits) : s.lowEntered.supply.Fits := by
  have restarted := h.modArb (fun a => { a with lowVoltage := true, entRun := 0 }) rfl rfl rfl rfl
  unfold State.lowEntered
  dsimp only
  exact Supply.Fits.endMoves (by simpa using restarted) _ _

end Sys2Proof.Machine
end

section
/-!
PROOFS. Every row of the table keeps the draws granted within the budget, and so does every step (O57).
-/

namespace Sys2Proof.Machine

open Sys2Proof

variable {s : State}

/-- A timer's row whose work is one group's, settled. -/
theorem State.supplyFits.timer (h : s.supplyFits) (left : Option Nat) (f : State → State)
    (k : ∀ t : State, t.supply.Eases (f t).supply) :
    keepsBudget (s.ifAwake (s.expire left fun t => t.settled (f t))) :=
  h.ifAwake fun fits => fits.expire left _ fun t fits => fits.settledEases (k t)

/-- A timer's row that ends an operation. -/
theorem State.supplyFits.timerEnds (h : s.supplyFits) (left : Option Nat) (g : Group) (reason : Reason) :
    keepsBudget (s.ifAwake (s.expire left fun t => t.ended g reason)) :=
  h.timer left _ fun _ => (Supply.Eases.refl _).endGroup g reason

/-- A row that acts when its condition holds. -/
theorem State.supplyFits.when {u : State} (h : s.supplyFits) (c : Prop) [Decidable c]
    (k : s.supply.Fits → u.supply.Fits) : keepsBudget (s.ifAwake (if c then u else s)) := by
  refine h.ifAwake fun fits => ?_
  split
  · exact k fits
  · exact fits

theorem State.supply_encoder (a : CountAxis) (outward : Bool) : (s.encoder a outward).supply = s.supply := by
  cases a <;> simp only [State.encoder] <;> split <;> simp

theorem State.supply_pulse : s.pulse.supply = s.supply := by
  unfold State.pulse
  split <;> simp

theorem State.supply_driftOut : s.driftOut.supply = s.supply := by
  unfold State.driftOut
  dsimp only
  split <;> simp

/-- CONTROL_INTERVAL drives and times only (R60). -/
theorem State.supplyFits.controlInterval (h : s.supplyFits) (r : RoomId) : keepsBudget (execControlInterval r s) := by
  refine h.ifAwake fun fits => fits.expire _ _ fun t k => ?_
  dsimp only
  split <;> simpa using k

/-- TEST_READING_A shows its reading only (R150). -/
theorem State.supplyFits.testReadingA (h : s.supplyFits) (mA mV : Nat) : keepsBudget (execTestReadingA mA mV s) := by
  refine h.ifAwake fun fits => ?_
  split
  · next t _ =>
    split
    · exact fits
    · rw [State.supply_with_test, State.showTest, State.supply_setChan]
      exact fits.pass _
  · exact fits

/-- DRIFT_TIMER looks at the tilt only (R44). -/
theorem State.supplyFits.driftTimer (h : s.supplyFits) : keepsBudget (execDriftTimer s) := by
  refine h.ifAwake fun fits => fits.expire _ _ fun t k => ?_
  rw [State.supply_restance, State.supply_driftOut]
  exact k

theorem State.supplyFits.testComplete (h : s.supplyFits) (mA mV : Nat) : keepsBudget (execTestComplete mA mV s) := by
  refine h.ifAwake fun fits => ?_
  split
  · split
    · exact ((fits.pass _).completeTest _ _ _).settled
    · exact fits
  · exact fits

theorem State.supplyFits.storeWriteComplete (h : s.supplyFits) : keepsBudget (execStoreWriteComplete s) := by
  refine h.ifAwake fun fits => ?_
  split
  · exact (fits.pass _).storeDone _
  · exact fits

theorem State.supplyFits.holdTimer (h : s.supplyFits) (a : HoldAxis) : keepsBudget (execHoldTimer a s) := by
  cases a with
  | jog => exact h.timer _ _ fun _ => (Supply.Eases.refl _).jogHoldOut
  | room r => exact h.timer _ _ fun _ => (Supply.Eases.refl _).roomHoldOut r

theorem State.supplyFits.resumeWindow (h : s.supplyFits) (a : HoldAxis) : keepsBudget (execResumeWindow a s) := by
  cases a with
  | jog => exact h.timerEnds _ _ _
  | room r => exact h.timerEnds _ _ _

/-- INPUT_INTERVAL, awake or dormant (R15, R182). -/
theorem State.supplyFits.inputInterval (h : s.supplyFits) (raw : RawInputs) : keepsBudget (execInputInterval raw s) := by
  refine h.ifOn fun _ => State.supplyFits_of_supply (s := s.pass s.clock.input) ?_ (by simp)
  by_cases awake : s.power = .awake
  · exact (((State.fits_iff awake).mpr h).pass _).supplyFits
  · obtain ⟨sum, classes, stow, draws, nothing⟩ := h
    obtain ⟨active, stored, job⟩ := draws
    refine ⟨sum, classes, stow, ⟨active, stored, fun j n e => ?_⟩, nothing⟩
    obtain ⟨p, old, new⟩ := Option.map_eq_some_iff.mp e
    cases new
    exact job p.1 p.2 old

theorem State.supplyFits.windowDue (h : s.supplyFits) : keepsBudget (execWindWindow s) := by
  refine h.ifAwake fun fits => ?_
  split
  · exact Supply.Fits.windWindow (by simpa using fits.pass s.clock.wind)
  · exact fits

/-- The power rows (R184). -/
theorem State.supplyFits.powerOn (h : s.supplyFits) (pins : StrapPins) (raw : RawInputs) (x : SampleSet) :
    keepsBudget (execPowerOn pins raw x s) := by
  obtain ⟨-, -, -, draws, -⟩ := h
  exact ⟨_, rfl, State.supplyFits_of_supply (State.fits_powerUp draws pins raw x).supplyFits State.supply_kick⟩

theorem State.supplyFits.powerLoss (h : s.supplyFits) (torn : TornTables) : keepsBudget (execPowerLoss torn s) := by
  refine ⟨_, rfl, ?_⟩
  split
  · exact h
  · obtain ⟨-, -, -, draws, -⟩ := h
    have grants : (s.unpowered torn).arb.grants = [] := rfl
    have waiting : (s.unpowered torn).arb.waiting = [] := rfl
    refine ⟨Nat.zero_le _, by simp [waiting], ⟨by simp [grants], Nat.zero_le _⟩, draws.afterLoss torn, fun _ => grants⟩

/-- Every row of the table keeps the promise. -/
theorem State.supplyFits.exec (h : s.supplyFits) (c : Instr) : keepsBudget (exec c s) := by
  have ask := fun tag => h.asks tag Laws.RowOfRequest.anySet
  cases c with
  | powerOn pins raw x => exact h.powerOn pins raw x
  | powerLoss torn => exact h.powerLoss torn
  | frameReceived bytes => exact h.ifOn fun _ => State.supplyFits_of_supply h (State.supply_hearAll _)
  | interByteGapTimeout got => exact h.ifOn fun _ => State.supplyFits_of_supply h (by simp)
  | framingFault got cause => exact h.ifOn fun _ => State.supplyFits_of_supply h (by simp)
  | requestTaken x => exact h.ifOn fun _ => h.takeHead x
  | frameTransmitComplete raw x => exact h.ifOn fun _ => h.transmitted raw x
  | identify tag => exact ask tag .identify
  | readCapability tag o n => exact ask tag (.readCapability o n)
  | readStatus tag => exact ask tag .readStatus
  | readCounters tag => exact ask tag .readCounters
  | move tag r e v => exact ask tag (.roomMove r e v)
  | jog tag j v => exact ask tag (.jog j v)
  | awningMove tag e v => exact ask tag (.awningMove e v)
  | hold tag m => exact ask tag (.hold m)
  | stop tag m => exact ask tag (.stop m)
  | home tag r => exact ask tag (.roomHome r)
  | awningHome tag => exact ask tag .awningHome
  | levelAuto tag => exact ask tag .levelAuto
  | levelStow tag => exact ask tag .levelStow
  | resume tag m => exact ask tag (.resume m)
  | readGroup tag g => exact ask tag (.readGroup g)
  | readStopRecord tag g => exact ask tag (.readStopRecord g)
  | readLevelResult tag p => exact ask tag (.readLevelResult p)
  | clearAttention tag m => exact ask tag (.clearAttention m)
  | readEnvelope tag i => exact ask tag (.readEnvelope i)
  | writeEnvelope tag i c => exact ask tag (.writeEnvelope i c)
  | lockEnvelope tag i => exact ask tag (.lockEnvelope i)
  | readWatch tag i => exact ask tag (.readWatch i)
  | writeWatch tag i c => exact ask tag (.writeWatch i c)
  | clearWatchHits tag m => exact ask tag (.clearWatchHits m)
  | storeTables tag => exact ask tag .storeTables
  | circuitTest tag c => exact ask tag (.circuitTest c)
  | readHealth tag c n => exact ask tag (.readHealth c n)
  | readSetting tag g i => exact ask tag (.readSetting g i)
  | writeSetting tag g i v => exact ask tag (.writeSetting g i v)
  | lockCalibration tag g => exact ask tag (.lockCalibration g)
  | zeroTilt tag => exact ask tag .zeroTilt
  | dormant tag => exact ask tag .dormant
  | wake tag x => exact h.asks tag x .wake
  | reset tag => exact ask tag .reset
  | sampleInterval x order => exact h.ifAwake fun fits => fits.sampleDue.handSet x order
  | jackSensorFaultClear j => exact h.when _ fun fits => fits.clearFault j
  | encoderStep a outward => exact h.ifAwake fun fits => by rw [State.supply_encoder]; exact fits
  | anemometerPulse => exact h.ifAwake fun fits => by rw [State.supply_pulse]; exact fits
  | inStopChange r d made => exact h.ifAwake fun fits => fits.tellInStop r d made
  | pinStateChange r p => exact h.ifAwake fun fits => fits.tellPin r p
  | stowedSwitchChange made => exact h.ifAwake fun fits => fits.tellStowed made
  | parkBrakeReleased => exact h.changes _ _ _ fun _ fits => fits.brakeLost
  | parkBrakeSet => exact h.changes _ _ _ fun _ fits => fits
  | ignitionOn x => exact h.ignitionOn x
  | ignitionOff => exact h.changes _ _ _ fun _ fits => fits.endMoves _ _
  | engineOrChargingChange charging => exact h.changes _ _ _ fun _ fits => fits.rebase.settled
  | airDumpedChange => exact h.changes _ _ _ fun _ fits => fits.airChanged
  | lockoutKeyOn => exact h.changes _ _ _ fun _ fits => fits.keyGained
  | lockoutKeyOff => exact h.changes _ _ _ fun _ fits => fits.takeUpStow
  | inputInterval raw => exact h.inputInterval raw
  | channelReadingInterval v => exact h.ifAwake fun fits => fits.pass s.clock.reading
  | overcurrentTrip c => exact h.when _ fun fits => fits.channelFault c _
  | openCircuit c => exact h.when _ fun fits => fits.channelFault c _
  | roomDriveStall r d => exact h.when _ fun fits => fits.settledEases ((Supply.Eases.refl _).roomStalls r d)
  | awningStall => exact h.when _ fun fits => fits.settledEndGroup .awning _
  | controlInterval r => exact h.controlInterval r
  | pinTimer r => exact h.timer _ _ fun _ => (Supply.Eases.refl _).pinFails r
  | holdTimer a => exact h.holdTimer a
  | resumeWindow a => exact h.resumeWindow a
  | roomTimeBudget r => exact h.timerEnds _ _ _
  | awningRunTime => exact h.timerEnds _ _ _
  | awningSupplyWaitBound => exact h.timerEnds _ _ _
  | awningSuspensionBound => exact h.timerEnds _ _ _
  | windWindow => exact h.windowDue
  | windLockoutOff => exact h.when _ fun fits => by rw [State.supply_with_wind]; exact fits
  | airDumpWait => exact h.timerEnds _ _ _
  | supplyWaitBound => exact h.timerEnds _ _ _
  | suspensionBound => exact h.timerEnds _ _ _
  | settleTimer => exact h.timer _ _ fun _ => (Supply.Eases.refl _).settleOut
  | stepSettle => exact h.timer _ _ fun _ => (Supply.Eases.refl _).stepOut
  | runTimer => exact h.timerEnds _ _ _
  | jogRunTimeBudget => exact h.timerEnds _ _ _
  | driftTimer => exact h.driftTimer
  | sagComplete => exact h.when _ fun fits => fits.sagged
  | recoveryComplete => exact h.when _ fun fits => fits.recovered
  | lowVoltageEntry => exact h.when _ fun fits => fits.lowEntered
  | lowVoltageExit => exact h.when _ fun fits => fits.modArb _ rfl rfl rfl rfl
  | testReadingA mA mV => exact h.testReadingA mA mV
  | testComplete mA mV => exact h.testComplete mA mV
  | storeWriteComplete => exact h.storeWriteComplete

/-- Settles O57: the row at the front of the queue keeps the promise, and with none waiting the state stays. -/
theorem everyStepKeepsTheBudget : Obligations.EveryStepKeepsTheBudget := by
  unfold Obligations.EveryStepKeepsTheBudget
  intro s t fits stepped
  unfold step at stepped
  split at stepped
  · cases stepped
    exact fits
  · next c _ _ =>
    have popped : s.popped.supplyFits := fits
    obtain ⟨u, next, kept⟩ := popped.exec c
    cases next.symm.trans stepped
    exact kept

end Sys2Proof.Machine
end

section
/-!
PROOFS. The state after reset meets the invariants (O60).
-/

namespace Sys2Proof.Machine

open Sys2Proof

theorem State.reset_tablesWhole : State.reset.tablesWhole :=
  ⟨by decide, by decide, by decide, by decide, fun _ _ _ writing => by cases writing⟩

theorem State.reset_buffersBounded : State.reset.buffersBounded := by
  unfold State.buffersBounded
  decide

/-- Nothing is granted, nothing waits, and no write is in flight (R104, R106). -/
theorem State.reset_supplyFits : State.reset.supplyFits := by
  refine (State.fits_of_nothing rfl (fun e mem => ?_) rfl ⟨by decide, by decide, fun j n writing => ?_⟩).supplyFits
  · cases mem
  · cases writing

/-- No group is at work, no channel is driven, and no claim is held (R121, R142). -/
theorem State.reset_claimSound : State.reset.claimSound := by
  have noClaim : State.reset.guard.jackWork = false := rfl
  have jacksIdle : State.reset.jk.st.work? = none := rfl
  have roomsIdle : ∀ r, (State.reset.room r).st.work? = none := fun r => by cases r <;> rfl
  have still : ∀ r, State.reset.roomStill r := fun r => by cases r <;> exact ⟨rfl, rfl, rfl⟩
  refine ⟨fun claim => ?_, fun work => absurd jacksIdle work, fun r work => absurd (roomsIdle r) work, by decide,
    fun r moving => absurd (still r) moving, ?_⟩
  · rw [noClaim] at claim
    cases claim
  · exact ⟨fun work => absurd rfl work, fun work => absurd rfl work, fun work => by cases work⟩

theorem State.reset_stanceTrue : State.reset.stanceTrue := fun _ => by decide

theorem State.reset_ready : State.reset.ready := ⟨rfl, rfl, by decide⟩

/-- Settles O60: each invariant holds of the concrete state. -/
theorem resetMeetsTheInvariants : Obligations.ResetMeetsTheInvariants :=
  ⟨State.reset_tablesWhole, State.reset_buffersBounded, State.reset_supplyFits, State.reset_claimSound,
    State.reset_stanceTrue, State.reset_ready⟩

end Sys2Proof.Machine
end

section
/-!
SUPPORT. The base, the level and the measurements of the supply (`Meters`), and SUPERVISION with its causes
(`State.alarm`), through an end, a walk and a suspension.
-/

namespace Sys2Proof.Machine

open Sys2Proof

variable (s : State)

/-! ## The measurements (R98 to R102) -/

theorem State.meters_notifyGrant (e : Waiting) : (s.notifyGrant e).arb.meters = s.arb.meters :=
  ((Supply.Eases.refl _).notifyGrant e).meters

@[simp] theorem State.meters_walkFuel (k : Nat) : (s.walkFuel k).arb.meters = s.arb.meters := by
  induction k generalizing s with
  | zero => rfl
  | succ k ih =>
    unfold State.walkFuel
    split
    · rfl
    · split
      · exact (ih _).trans (State.meters_notifyGrant _ _)
      · rfl

@[simp] theorem State.meters_settled (t : State) : (s.settled t).arb.meters = t.arb.meters := by
  show (s.walkAfter t).arb.meters = t.arb.meters
  unfold State.walkAfter
  split
  · exact State.meters_walkFuel t _
  · rfl

@[simp] theorem State.meters_endMoves (gs : List Group) (reason : Reason) :
    (s.endMoves gs reason).arb.meters = s.arb.meters := by
  rw [State.endMoves_eq, State.meters_settled]
  exact ((Supply.Eases.refl _).endEach reason gs).meters

/-! ## SUPERVISION (R156, R157) -/

theorem State.alarm_endGroup (g : Group) (reason : Reason) : (s.endGroup g reason).alarm = s.alarm := by
  cases g with
  | jacks => exact State.alarm_of_outside (State.outside_endJacks s reason)
  | room r => exact State.alarm_of_outside (State.outside_finishRoom s r reason _ _)
  | awning => exact State.alarm_endAwning s reason

theorem State.alarm_endMove (g : Group) (reason : Reason) : (s.endMove g reason).alarm = s.alarm := by
  unfold State.endMove
  split
  · split
    · exact State.alarm_endAwning s reason
    · rfl
  · exact State.alarm_endGroup s g reason

@[simp] theorem State.alarm_endMoves (gs : List Group) (reason : Reason) : (s.endMoves gs reason).alarm = s.alarm := by
  have each : ∀ t : State, (t.endEach reason gs).alarm = t.alarm := by
    induction gs with
    | nil => exact fun _ => rfl
    | cons g gs ih => exact fun t => (ih _).trans (State.alarm_endMove t g reason)
  rw [State.endMoves_eq, State.alarm_settled, each]

/-- SUPERVISION joins with one cause more: no other part of the state takes notice but the notice flag (R157). -/
theorem State.joinSupervision_spec (add : SupCauses → SupCauses) :
    ∃ (sa : StanceAttention) (b : Bool),
      s.joinSupervision add = { s with sa := sa, link := { s.link with notice := b } }
        ∧ sa.supervision = true ∧ ∃ c, sa.causes = add c := by
  unfold State.joinSupervision
  split
  · next member => exact ⟨_, s.link.notice, rfl, member, _, rfl⟩
  · exact ⟨_, true, rfl, rfl, _, rfl⟩

end Sys2Proof.Machine
end

section
/-!
PROOFS. LOW_VOLTAGE is entered and left (O45).
-/

namespace Sys2Proof.Machine

open Sys2Proof

variable (s : State)

/-- The state in which the moves end: the condition stands and SUPERVISION says so (R101). -/
def State.lowNoted : State :=
  (s.modArb fun a => { a with lowVoltage := true, entRun := 0 }).joinSupervision SupCauses.addLowVoltage

theorem State.lowEntered_eq : s.lowEntered = s.lowNoted.endMoves s.lowNoted.presentGroups .lowVoltage := rfl

theorem State.lowNoted_spec :
    ∃ (sa : StanceAttention) (b : Bool),
      s.lowNoted = { s with
          arb := { s.arb with lowVoltage := true, entRun := 0 }, sa := sa, link := { s.link with notice := b } }
        ∧ sa.supervision = true ∧ sa.causes.lowVoltage = true := by
  obtain ⟨sa, b, eq, member, c, causes⟩ :=
    State.joinSupervision_spec (s.modArb fun a => { a with lowVoltage := true, entRun := 0 }) SupCauses.addLowVoltage
  exact ⟨sa, b, eq, member, congrArg SupCauses.lowVoltage causes⟩

/-- The row of LOW_VOLTAGE_ENTRY once its measurement is complete (R101). -/
theorem State.lowEntry_row (low : s.arb.lowVoltage = false) (run : 51 ≤ s.arb.entRun) :
    exec .lowVoltageEntry s = s.ifAwake s.lowEntered := by
  have complete : (!s.arb.lowVoltage && decide (entrySamples ≤ s.arb.entRun)) = true := by
    rw [low]
    exact decide_eq_true run
  exact congrArg s.ifAwake (if_pos complete)

/-- The row of LOW_VOLTAGE_EXIT once its measurement is complete (R102). -/
theorem State.lowExit_row (low : s.arb.lowVoltage = true) (run : 251 ≤ s.arb.exitRun) :
    exec .lowVoltageExit s = s.ifAwake { s with arb := { s.arb with lowVoltage := false, exitRun := 0 } } := by
  have complete : (s.arb.lowVoltage && decide (exitSamples ≤ s.arb.exitRun)) = true := by
    rw [low]
    exact decide_eq_true run
  exact congrArg s.ifAwake (if_pos complete)

/-- Settles O45: the entry is the end of every move of a present group; the exit touches the condition alone. -/
theorem lowVoltageEndsOperations : Obligations.LowVoltageEndsOperations := by
  unfold Obligations.LowVoltageEndsOperations
  intro s awake
  refine ⟨fun low run => ?_, fun low run => ?_⟩
  · obtain ⟨sa, b, noted, member, cause⟩ := State.lowNoted_spec s
    rw [State.lowEntry_row s low run, State.lowEntered_eq, noted]
    obtain ⟨v, value⟩ : ∃ v : State, { s with
      arb := { s.arb with lowVoltage := true, entRun := 0 }, sa := sa, link := { s.link with notice := b } } = v := ⟨_, rfl⟩
    have still : s.aw.stowing = true → v.aw.moving = false := by
      intro stow
      rw [← value, ← Bool.not_eq_true, Awning.moving_iff]
      simp [stow]
    have meters : (v.endMoves v.presentGroups .lowVoltage).arb.lowVoltage = v.arb.lowVoltage :=
      congrArg Meters.lowVoltage (State.meters_endMoves v _ _)
    have alarm := State.alarm_endMoves v v.presentGroups .lowVoltage
    have frozen := (State.freeze_settled v _).trans (State.freeze_endEach v .lowVoltage v.presentGroups)
    have framed := State.framed_of_still (State.still_endMoves v v.presentGroups .lowVoltage)
    have ends := fun g present => State.endMoves_over (g := g) v .lowVoltage v.presentGroups (State.presentGroups_nodup v)
      ((State.mem_presentGroups v).mpr present)
    have kept : s.aw.stowing = true → v.waits .awning = false → (v.endMoves v.presentGroups .lowVoltage).aw = v.aw
        ∧ (v.endMoves v.presentGroups .lowVoltage).chan .awning = v.chan .awning := by
      intro stow free
      have same := State.view_endMoves v .lowVoltage v.presentGroups (g := .awning) (fun _ => ⟨rfl, still stow⟩) free
      exact ⟨State.aw_of_view same, State.chan_of_view same .awning rfl⟩
    rw [value]
    obtain ⟨l, next, sent⟩ := State.awake_next s awake (v.endMoves v.presentGroups .lowVoltage)
    subst value
    refine ⟨_, next, meters, (congrArg Prod.fst alarm).trans member, (congrArg (fun p => p.2.lowVoltage) alarm).trans cause,
      fun g present work moves => ?_, kept, frozen, sent.trans framed⟩
    obtain ⟨ended, off, -⟩ := ends g present work moves
    exact ⟨State.endedWith_of_view (State.view_with_link _ l) rfl ended, off⟩
  · rw [State.lowExit_row s low run, State.ifAwake_awake s _ awake]

end Sys2Proof.Machine
end

section
/-!
SUPPORT. A walk that grants the head entries that fit and stops at the first that does not (R107): rooms whose hold has
lapsed keep their grants unused, a waiting room withdraws its pin, a suspended one drives again (R57, R69, R71, R108).
-/

namespace Sys2Proof.Machine

open Sys2Proof

variable {s : State} {r : RoomId}

/-- The grant that an entry of the list becomes (R107). -/
def Waiting.granted (e : Waiting) : Grant := { holder := e.holder, cls := e.cls, draw := e.draw }

/-- The arbiter after the grants of the entries `l`, with `rest` still in the list. -/
def Arbiter.granting (a : Arbiter) (l rest : List Waiting) : Arbiter :=
  { a with waiting := rest, grants := a.grants ++ l.map Waiting.granted }

/-- The first entry of `rest` does not fit behind the draws granted. -/
def noneFits (granted budget : Nat) (rest : List Waiting) : Prop :=
  ∀ f more, rest = f :: more → budget < granted + f.draw

theorem State.walkFuel_stops (full : noneFits s.grantSum s.budget s.arb.waiting) (k : Nat) : s.walkFuel k = s := by
  cases k with
  | zero => rfl
  | succ k =>
    unfold State.walkFuel
    split
    · rfl
    · next e rest head => exact if_neg (Nat.not_le.mpr (full e rest head))

theorem State.walkFuel_head {e : Waiting} {rest : List Waiting} (head : s.arb.waiting = e :: rest)
    (room : s.grantSum + e.draw ≤ s.budget) (k : Nat) :
    s.walkFuel (k + 1) = ((s.grantHead e rest).notifyGrant e).walkFuel k := by
  rw [State.walkFuel]
  simp only [head]
  exact if_pos room

theorem State.grantHead_sum (e : Waiting) (rest : List Waiting) : (s.grantHead e rest).grantSum = s.grantSum + e.draw :=
  sumDraws_append _ _

/-! ## Rooms whose hold has lapsed (R69, R71) -/

/-- The cause set that a lapse of the hold alone leaves (R69). -/
def Causes.lapsed : Causes := { Causes.none with holdLapse := true }

/-- Beside SUPPLY the lapse of its hold alone suspends the room. -/
def Room.keepsLapse (x : Room) : Prop := { x.causes with supply := false } = .lapsed

theorem State.resumeRoom_lapsed (lapse : (s.room r).keepsLapse) :
    s.resumeRoom r = s.setRoom r { s.room r with causes := .lapsed } := by
  have causes : { (s.room r).causes with supply := false } = .lapsed := lapse
  rw [State.resumeRoom, causes]
  exact if_neg (by simp [Causes.isEmpty, Causes.lapsed])

/-- The entries `l` are those of rooms that keep their lapse. -/
def State.allLapsed (s : State) (l : List Waiting) : Prop :=
  ∀ e ∈ l, e.before = true ∧ ∃ r, e.holder = .room r ∧ (s.room r).keepsLapse

/-- A grant of such a room changes its cause set; the room stays suspended. -/
def State.lapseKept (s : State) (r : RoomId) : State :=
  s.setRoom r { s.room r with causes := .lapsed }

theorem State.lapseKept_room (q : RoomId) : ((s.lapseKept r).room q).st = (s.room q).st
    ∧ (((s.lapseKept r).room q).causes = (s.room q).causes
      ∨ ((s.lapseKept r).room q).causes = .lapsed) := by
  by_cases same : q = r
  · subst same
    rw [State.lapseKept, State.room_setRoom_same]
    exact ⟨rfl, .inr rfl⟩
  · rw [State.lapseKept, State.room_setRoom_other _ _ _ _ same]
    exact ⟨rfl, .inl rfl⟩

/-- The grants of such rooms change their cause sets and the arbiter alone. -/
theorem State.walkFuel_lapsed (l rest : List Waiting) (k : Nat) (fuel : l.length ≤ k) (list : s.arb.waiting = l ++ rest)
    (sum : s.grantSum + (l.map (·.draw)).sum ≤ s.budget)
    (full : noneFits (s.grantSum + (l.map (·.draw)).sum) s.budget rest) (lapsed : s.allLapsed l) :
    ∃ rooms : PerRoom Room, s.walkFuel k = { s with rooms := rooms, arb := s.arb.granting l rest }
      ∧ ∀ r, (rooms.get r).st = (s.room r).st
        ∧ ((rooms.get r).causes = (s.room r).causes ∨ (rooms.get r).causes = .lapsed)
        ∧ ∀ e ∈ l, e.holder = .room r → (rooms.get r).causes = .lapsed := by
  induction l generalizing s k with
  | nil =>
    refine ⟨s.rooms, ?_, fun r => ⟨rfl, .inl rfl, fun e mem => by cases mem⟩⟩
    rw [State.walkFuel_stops (by rw [list]; exact full)]
    simp [Arbiter.granting, ← show s.arb.waiting = rest from list]
  | cons e l ih =>
    obtain ⟨before, r, holder, lapse⟩ := lapsed e List.mem_cons_self
    obtain ⟨k, rfl⟩ : ∃ n, k = n + 1 := ⟨k - 1, by simp at fuel; omega⟩
    obtain ⟨u, granted⟩ : ∃ u, (s.grantHead e (l ++ rest)).lapseKept r = u := ⟨_, rfl⟩
    have first : s.walkFuel (k + 1) = u.walkFuel k := by
      rw [State.walkFuel_head list (by simp at sum; omega), State.notifyGrant, holder, before, ← granted]
      exact congrArg (State.walkFuel · k) (State.resumeRoom_lapsed lapse)
    have total : u.grantSum = s.grantSum + e.draw := by rw [← granted]; exact State.grantHead_sum e _
    have all : u.grantSum + (l.map (·.draw)).sum = s.grantSum + ((e :: l).map (·.draw)).sum := by simp [total, Nat.add_assoc]
    have budget : u.budget = s.budget := by rw [← granted]; rfl
    have rooms := fun q => granted ▸ State.lapseKept_room (s := s.grantHead e (l ++ rest)) (r := r) q
    obtain ⟨after, walked, kept⟩ := ih (s := u) k (by simpa using fuel) (by rw [← granted]; rfl)
      (by rw [all, budget]; exact sum) (by rw [all, budget]; exact full) fun f mem => by
        obtain ⟨marked, q, owner, keeps⟩ := lapsed f (List.mem_cons_of_mem _ mem)
        refine ⟨marked, q, owner, ?_⟩
        rcases (rooms q).2 with same | ends
        · rw [Room.keepsLapse, same]
          exact keeps
        · rw [Room.keepsLapse, ends]
          rfl
    refine ⟨after, ?_, fun q => ?_⟩
    · rw [first, walked, ← granted]
      simp [State.lapseKept, State.setRoom, State.grantHead, Arbiter.granting, Waiting.granted]
    · obtain ⟨st, causes, ends⟩ := kept q
      obtain ⟨st', causes'⟩ := rooms q
      refine ⟨st.trans st', ?_, fun f mem owner => ?_⟩
      · rcases causes with same | ends
        · rw [same]
          exact causes'
        · exact .inr ends
      · rcases List.mem_cons.mp mem with rfl | later
        · cases holder.symm.trans owner
          have now : (u.room r).causes = .lapsed := by
            rw [← granted, State.lapseKept, State.room_setRoom_same]
          rcases causes with same | ends
          · exact same.trans now
          · exact ends
        · exact ends f later owner

/-! ## One entry alone (R57, R71) -/

/-- The walk ends at one entry whose notice leaves the arbiter as the grant has left it. -/
theorem State.walkFuel_one {e : Waiting} {rest : List Waiting} (list : s.arb.waiting = e :: rest)
    (sum : s.grantSum + e.draw ≤ s.budget) (full : noneFits (s.grantSum + e.draw) s.budget rest)
    (still : ((s.grantHead e rest).notifyGrant e).arb = s.arb.granting [e] rest) (k : Nat) :
    s.walkFuel (k + 1) = (s.grantHead e rest).notifyGrant e := by
  rw [State.walkFuel_head list sum]
  refine State.walkFuel_stops ?_ k
  have total : ((s.grantHead e rest).notifyGrant e).grantSum = s.grantSum + e.draw := by
    rw [State.grantSum, still]
    exact State.grantHead_sum e rest
  have budget : ((s.grantHead e rest).notifyGrant e).budget = s.budget := by rw [State.budget, still]; rfl
  rw [still, total, budget]
  exact full

/-- A waiting room whose pin is not withdrawn prepares (R57, R58). -/
theorem State.grantRoom_prepares (st : (s.room r).st = .work .waitSupply) (out : (s.room r).target ≠ .inn)
    (pin : (s.sense r).pin ≠ .withdrawn) : s.grantRoom r = s.enterPreparing r := by
  have proceeds : s.grantRoom r = s.proceedRoom r := by rw [State.grantRoom, st]
  rw [proceeds, State.proceedRoom]
  simp [out, pin]

theorem State.enterPreparing_spec :
    ((s.enterPreparing r).room r).st = .work .preparing ∧ ((s.enterPreparing r).room r).pinLeft = some 1500
      ∧ ((s.enterPreparing r).chan (.pin r)).mode = .driven .first 100 ∧ (s.enterPreparing r).arb = s.arb := by
  have mode : ((s.enterPreparing r).chan (.pin r)).mode = ((s.drive (.pin r) .first 100).chan (.pin r)).mode := rfl
  rw [mode, State.drive_chan_same, Channel.commanded_mode, State.enterPreparing, State.room_setRoom_same]
  exact ⟨rfl, rfl, rfl, rfl⟩

/-- An outward drive of a MOVE that is not stopped starts at its own duty (R59). -/
theorem State.startDrive_out (target : (s.room r).target = .out) (home : (s.room r).home = false) (d : Drive)
    (free : (s.room r).stopped d = false) :
    s.startDrive r d = s.drive (.drive r d) .first (s.room r).cap.run.extendDuty := by
  simp [State.startDrive, State.driveRuns, State.driveDir, Room.nominal, target, home, free]

/-- Outward with neither drive stopped and the lead below the fault limit, both drives run at the duty of a MOVE (R59). -/
theorem State.enterMoving_out (target : (s.room r).target = .out) (home : (s.room r).home = false)
    (free : ∀ d, (s.room r).stopped d = false) (lead : s.lead r < (s.room r).cap.run.faultLimit) :
    ((s.enterMoving r).room r).st = .work .moving ∧ ((s.enterMoving r).room r).causes = (s.room r).causes
      ∧ (∀ d, ((s.enterMoving r).chan (.drive r d)).mode = .driven .first (s.room r).cap.run.extendDuty)
      ∧ (s.enterMoving r).arb = s.arb := by
  obtain ⟨u, moves⟩ : ∃ u, s.setRoom r { s.room r with st := .work .moving, pinLeft := none } = u := ⟨_, rfl⟩
  have room : u.room r = { s.room r with st := .work .moving, pinLeft := none } := by
    rw [← moves, State.room_setRoom_same]
  obtain ⟨v, fore⟩ : ∃ v, u.drive (.drive r .fore) .first (s.room r).cap.run.extendDuty = v := ⟨_, rfl⟩
  have fore' : u.startDrive r .fore = v := by
    rw [State.startDrive_out (by rw [room]; exact target) (by rw [room]; exact home) _
      (by rw [room]; exact free .fore), room, ← fore]
  have same : v.room r = u.room r := by rw [← fore]; rfl
  have aft : v.startDrive r .aft = v.drive (.drive r .aft) .first (s.room r).cap.run.extendDuty := by
    rw [State.startDrive_out (by rw [same, room]; exact target) (by rw [same, room]; exact home) _
      (by rw [same, room]; exact free .aft), same, room]
  obtain ⟨w, driven⟩ : ∃ w, v.drive (.drive r .aft) .first (s.room r).cap.run.extendDuty = w := ⟨_, rfl⟩
  have near : u.lead r < (u.room r).cap.run.faultLimit := by rw [room, ← moves]; exact lead
  have runs : u.driveRuns r .fore = true := by
    have going : (u.room r).stopped .fore = false := by rw [room]; exact free .fore
    have out : (u.room r).target = .out := by rw [room]; exact target
    simp [State.driveRuns, out, going]
  have goes : s.enterMoving r = w.setRoom r { w.room r with endPos := .unknown, ctrlLeft := some controlMs } := by
    unfold State.enterMoving
    rw [moves]
    dsimp only
    rw [if_neg (by simp [near]), if_pos (by simp [runs]), fore', aft, driven]
  have after : w.room r = { s.room r with st := .work .moving, pinLeft := none } := by rw [← driven, ← room, ← same]; rfl
  rw [goes, State.room_setRoom_same, after]
  refine ⟨rfl, rfl, fun d => ?_, by rw [← driven, ← fore, ← moves]; rfl⟩
  show (w.chan (.drive r d)).mode = _
  cases d with
  | fore => rw [← driven, State.drive_chan_other _ _ _ _ _ (by simp), ← fore, State.drive_chan_same, Channel.commanded_mode]
  | aft => rw [← driven, State.drive_chan_same, Channel.commanded_mode]

/-- A room suspended by the arbiter alone takes up its motion (R71, R73). -/
theorem State.resumeRoom_drives (st : (s.room r).st = .suspended .moving)
    (causes : (s.room r).causes = { Causes.none with supply := true }) (target : (s.room r).target = .out)
    (home : (s.room r).home = false) (free : ∀ d, (s.room r).stopped d = false)
    (lead : s.lead r < (s.room r).cap.run.faultLimit) :
    ((s.resumeRoom r).room r).st = .work .moving ∧ ((s.resumeRoom r).room r).causes = .none
      ∧ (∀ d, ((s.resumeRoom r).chan (.drive r d)).mode = .driven .first (s.room r).cap.run.extendDuty)
      ∧ (s.resumeRoom r).arb = s.arb := by
  obtain ⟨u, freed⟩ : ∃ u, s.setRoom r { s.room r with causes := .none } = u := ⟨_, rfl⟩
  have room : u.room r = { s.room r with causes := .none } := by rw [← freed, State.room_setRoom_same]
  obtain ⟨v, goes⟩ : ∃ v, u.setRoom r { u.room r with st := .work .moving } = v := ⟨_, rfl⟩
  have after : v.room r = { s.room r with causes := .none, st := .work .moving } := by
    rw [← goes, State.room_setRoom_same, room]
  have none : { (s.room r).causes with supply := false } = Causes.none := by rw [causes]; rfl
  have left : (u.room r).st = .suspended .moving := by rw [room]; exact st
  have back : s.resumeRoom r = v.enterMoving r := by
    rw [State.resumeRoom, none, freed, State.returnRoomIfFree, room]
    refine (if_pos rfl).trans ?_
    rw [State.returnRoom, left]
    exact congrArg (State.enterMoving · r) goes
  have near : v.lead r < (v.room r).cap.run.faultLimit := by rw [after, ← goes, ← freed]; exact lead
  obtain ⟨moves, empty, drives, arb⟩ := State.enterMoving_out (s := v) (r := r) (by rw [after]; exact target)
    (by rw [after]; exact home) (fun d => by rw [after]; exact free d) near
  rw [back]
  refine ⟨moves, empty.trans (by rw [after]), fun d => ?_, arb.trans (by rw [← goes, ← freed]; rfl)⟩
  rw [drives d, after]

end Sys2Proof.Machine
end

section
/-!
PROOFS. The walk that an event owes, as the statement of O44 speaks of it.
-/

namespace Sys2Proof.Machine

open Sys2Proof

/-- After `c` the grants of `left` stand within a budget of `b`, and the list has been walked: the statement's `walks`. -/
def State.walksTo (s : State) (c : Instr) (left : List Grant) (b : Nat) : Prop :=
  ∀ (l rest : List Waiting), s.arb.waiting = l ++ rest → sumDraws left + (l.map (·.draw)).sum ≤ b →
    (∀ f more, rest = f :: more → b < sumDraws left + (l.map (·.draw)).sum + f.draw) →
    let first := fun (P : State → Prop) => ∃ t, exec c s = .next t ∧ t.arb.waiting = rest
      ∧ t.arb.grants = left ++ l.map (fun e => { holder := e.holder, cls := e.cls, draw := e.draw }) ∧ P t
    ((∀ e ∈ l, e.before = true ∧ ∃ r w, e.holder = .room r ∧ (s.room r).st = .suspended w
        ∧ (s.room r).causes = { Causes.none with supply := true, holdLapse := true }) →
      first fun t => ∀ e ∈ l, ∀ r, e.holder = .room r → (t.room r).st = (s.room r).st
        ∧ (t.room r).causes = { Causes.none with holdLapse := true } ∧ ∀ d, t.chan (.drive r d) = s.chan (.drive r d))
    ∧ (∀ e r, l = [e] → e.holder = .room r →
      (e.before = false → (s.room r).st = .work .waitSupply → (s.room r).target ≠ .inn →
          (s.sense r).pin ≠ .withdrawn →
        first fun t => (t.room r).st = .work .preparing ∧ (t.room r).pinLeft = some 1500
          ∧ (t.chan (.pin r)).mode = .driven .first 100)
      ∧ (e.before = true → (s.room r).st = .suspended .moving →
          (s.room r).causes = { Causes.none with supply := true } → (s.room r).target = .out →
          (s.room r).home = false → (s.room r).foreStopped = false → (s.room r).aftStopped = false →
          s.lead r < (s.room r).cap.run.faultLimit →
        first fun t => (t.room r).st = .work .moving ∧ (t.room r).causes = .none
          ∧ (t.chan (.drive r .fore)).mode = .driven .first (s.room r).cap.run.extendDuty
          ∧ (t.chan (.drive r .aft)).mode = .driven .first (s.room r).cap.run.extendDuty))

/-- What the walk of `u` reads of a room is what `s` has of it. -/
def State.sameRoom (s u : State) (r : RoomId) : Prop :=
  u.room r = s.room r ∧ u.sense r = s.sense r ∧ ∀ d, u.chan (.drive r d) = s.chan (.drive r d)

/-- The command `c` on `s` ends with the walk of `u`, in which the grants are those of `left` within a budget of `b`. -/
structure State.WalksAt (s : State) (c : Instr) (left : List Grant) (b : Nat) (u : State) : Prop where
  next : u.walk.entryCount = u.entryCount → ∃ l : Link, exec c s = .next { u.walk.restance with link := l }
  waiting : u.arb.waiting = s.arb.waiting
  grants : u.arb.grants = left
  budget : u.budget = b
  rooms : ∀ r, s.waits (.room r) = true → s.sameRoom u r

variable {s u : State} {c : Instr} {left : List Grant} {b : Nat} {l rest : List Waiting}

/-- A walk that grants `l` is the outcome of the command. -/
theorem State.WalksAt.first (h : s.WalksAt c left b u) (list : s.arb.waiting = l ++ rest)
    (walked : u.walk.arb = u.arb.granting l rest) {P : State → Prop}
    (holds : ∀ k : Link, P { u.walk.restance with link := k }) :
    ∃ t, exec c s = .next t ∧ t.arb.waiting = rest
      ∧ t.arb.grants = left ++ l.map (fun e => { holder := e.holder, cls := e.cls, draw := e.draw }) ∧ P t := by
  have count : u.walk.entryCount = u.entryCount := by
    simp [State.entryCount, walked, Arbiter.granting, h.waiting, list]
    omega
  obtain ⟨k, next⟩ := h.next count
  refine ⟨_, next, congrArg Arbiter.waiting walked, (congrArg Arbiter.grants walked).trans ?_, holds k⟩
  rw [Arbiter.granting, h.grants]
  rfl

theorem State.waits_of_mem {e : Waiting} {g : Group} (mem : e ∈ s.arb.waiting) (holder : e.holder = g) :
    s.waits g = true :=
  List.any_eq_true.mpr ⟨e, mem, by simp [holder]⟩

/-- Rooms whose hold has lapsed keep their new grants unused. -/
theorem State.WalksAt.lapsed (h : s.WalksAt c left b u) (list : s.arb.waiting = l ++ rest)
    (sum : sumDraws left + (l.map (·.draw)).sum ≤ b) (full : noneFits (sumDraws left + (l.map (·.draw)).sum) b rest)
    (lapsed : ∀ e ∈ l, e.before = true ∧ ∃ r w, e.holder = .room r ∧ (s.room r).st = .suspended w
      ∧ (s.room r).causes = { Causes.none with supply := true, holdLapse := true }) :
    ∃ t, exec c s = .next t ∧ t.arb.waiting = rest
      ∧ t.arb.grants = left ++ l.map (fun e => { holder := e.holder, cls := e.cls, draw := e.draw })
      ∧ ∀ e ∈ l, ∀ r, e.holder = .room r → (t.room r).st = (s.room r).st
        ∧ (t.room r).causes = .lapsed ∧ ∀ d, t.chan (.drive r d) = s.chan (.drive r d) := by
  have known : ∀ e ∈ l, ∀ r, e.holder = .room r → s.sameRoom u r := fun e mem r holder =>
    h.rooms r (State.waits_of_mem (list ▸ List.mem_append_left _ mem) holder)
  have all : u.allLapsed l := fun e mem => by
    obtain ⟨before, r, w, holder, -, causes⟩ := lapsed e mem
    obtain ⟨room, -⟩ := known e mem r holder
    exact ⟨before, r, holder, by rw [room, Room.keepsLapse, causes]; rfl⟩
  obtain ⟨grants, budget⟩ := And.intro h.grants h.budget
  subst grants budget
  obtain ⟨rooms, walk, kept⟩ := State.walkFuel_lapsed l rest u.arb.waiting.length (by simp [h.waiting, list])
    (h.waiting.trans list) sum full all
  have walked : u.walk = { u with rooms := rooms, arb := u.arb.granting l rest } := walk
  refine h.first list (by rw [walked]) fun k e mem r holder => ?_
  obtain ⟨room, -, chans⟩ := known e mem r holder
  obtain ⟨st, -, causes⟩ := kept r
  rw [walked]
  exact ⟨st.trans (congrArg Room.st room), causes e mem holder, chans⟩

/-- One entry is granted, its notice leaving the arbiter alone. -/
theorem State.WalksAt.one {e : Waiting} (h : s.WalksAt c left b u) (list : s.arb.waiting = e :: rest)
    (sum : sumDraws left + e.draw ≤ b) (full : noneFits (sumDraws left + e.draw) b rest)
    (still : ((u.grantHead e rest).notifyGrant e).arb = u.arb.granting [e] rest) :
    u.walk = (u.grantHead e rest).notifyGrant e := by
  obtain ⟨grants, budget⟩ := And.intro h.grants h.budget
  subst grants budget
  have fuel : u.arb.waiting.length = rest.length + 1 := by simp [h.waiting, list]
  rw [State.walk, fuel]
  exact State.walkFuel_one (h.waiting.trans list) sum full still _

/-- A waiting room withdraws its pin. -/
theorem State.WalksAt.prepares {e : Waiting} {r : RoomId} (h : s.WalksAt c left b u) (list : s.arb.waiting = e :: rest)
    (sum : sumDraws left + e.draw ≤ b) (full : noneFits (sumDraws left + e.draw) b rest) (holder : e.holder = .room r)
    (before : e.before = false) (st : (s.room r).st = .work .waitSupply) (out : (s.room r).target ≠ .inn)
    (pin : (s.sense r).pin ≠ .withdrawn) :
    ∃ t, exec c s = .next t ∧ t.arb.waiting = rest
      ∧ t.arb.grants = left ++ [e].map (fun e => { holder := e.holder, cls := e.cls, draw := e.draw })
      ∧ (t.room r).st = .work .preparing ∧ (t.room r).pinLeft = some 1500
      ∧ (t.chan (.pin r)).mode = .driven .first 100 := by
  obtain ⟨room, sense, -⟩ := h.rooms r (State.waits_of_mem (list ▸ List.mem_cons_self) holder)
  have granted : (u.grantHead e rest).notifyGrant e = (u.grantHead e rest).enterPreparing r := by
    rw [State.notifyGrant, holder, before]
    exact State.grantRoom_prepares (s := u.grantHead e rest) ((congrArg Room.st room).trans st)
      (fun inn => out ((congrArg Room.target room).symm.trans inn)) (fun w => pin (sense ▸ w))
  obtain ⟨prepares, timer, withdraws, arb⟩ := State.enterPreparing_spec (s := u.grantHead e rest) (r := r)
  have walked := h.one list sum full (by rw [granted]; exact arb)
  refine h.first (l := [e]) list (by rw [walked, granted]; exact arb) fun k => ?_
  rw [walked, granted]
  exact ⟨prepares, timer, withdraws⟩

/-- A suspended room drives again. -/
theorem State.WalksAt.drives {e : Waiting} {r : RoomId} (h : s.WalksAt c left b u) (list : s.arb.waiting = e :: rest)
    (sum : sumDraws left + e.draw ≤ b) (full : noneFits (sumDraws left + e.draw) b rest) (holder : e.holder = .room r)
    (before : e.before = true) (st : (s.room r).st = .suspended .moving)
    (causes : (s.room r).causes = { Causes.none with supply := true }) (target : (s.room r).target = .out)
    (home : (s.room r).home = false) (free : ∀ d, (s.room r).stopped d = false)
    (lead : s.lead r < (s.room r).cap.run.faultLimit) :
    ∃ t, exec c s = .next t ∧ t.arb.waiting = rest
      ∧ t.arb.grants = left ++ [e].map (fun e => { holder := e.holder, cls := e.cls, draw := e.draw })
      ∧ (t.room r).st = .work .moving ∧ (t.room r).causes = .none
      ∧ (t.chan (.drive r .fore)).mode = .driven .first (s.room r).cap.run.extendDuty
      ∧ (t.chan (.drive r .aft)).mode = .driven .first (s.room r).cap.run.extendDuty := by
  obtain ⟨room, sense, -⟩ := h.rooms r (State.waits_of_mem (list ▸ List.mem_cons_self) holder)
  have resumed : (u.grantHead e rest).notifyGrant e = (u.grantHead e rest).resumeRoom r := by
    rw [State.notifyGrant, holder, before]
  have same : (u.grantHead e rest).room r = s.room r := room
  have near : (u.grantHead e rest).lead r = s.lead r := by
    show absInt ((u.sense r).fore.handed - (u.sense r).aft.handed) = _
    rw [sense]
    rfl
  obtain ⟨moves, empty, runs, arb⟩ := State.resumeRoom_drives (s := u.grantHead e rest) (r := r) (by rw [same]; exact st)
    (by rw [same]; exact causes) (by rw [same]; exact target) (by rw [same]; exact home)
    (fun d => by rw [same]; exact free d) (by rw [near, same]; exact lead)
  rw [same] at runs
  have walked := h.one list sum full (by rw [resumed]; exact arb)
  refine h.first (l := [e]) list (by rw [walked, resumed]; exact arb) fun k => ?_
  rw [walked, resumed]
  exact ⟨moves, empty, runs .fore, runs .aft⟩

theorem State.WalksAt.walksTo (h : s.WalksAt c left b u) : s.walksTo c left b := by
  intro l rest list sum full
  refine ⟨h.lapsed list sum full, fun e r one holder => ?_⟩
  subst one
  have sum : sumDraws left + e.draw ≤ b := by simpa using sum
  have full : noneFits (sumDraws left + e.draw) b rest := by simpa [noneFits] using full
  refine ⟨h.prepares list sum full holder, fun before st causes target home fore aft lead => ?_⟩
  exact h.drives list sum full holder before st causes target home
    (fun d => by cases d with | fore => exact fore | aft => exact aft) lead

end Sys2Proof.Machine
end

section
/-!
PROOFS. The budget follows the inputs, the sags and the recoveries, and the list is walked (O44).
-/

namespace Sys2Proof.Machine

open Sys2Proof

variable (s : State)

/-! ## A change of the budget (R98, R111) -/

@[simp] theorem State.meters_suspendUntil (need k : Nat) : (s.suspendUntil need k).arb.meters = s.arb.meters := by
  induction k generalizing s with
  | zero => rfl
  | succ k ih =>
    unfold State.suspendUntil
    split
    · rfl
    · split
      · rfl
      · exact (ih _).trans (congrArg Supply.meters (State.supply_suspendHolder _))

@[simp] theorem State.meters_budgetChanged (old : Nat) : (s.budgetChanged old).arb.meters = s.arb.meters := by
  unfold State.budgetChanged
  split
  · exact State.meters_walkFuel s _
  · exact State.meters_suspendUntil s _ _

@[simp] theorem State.alarm_budgetChanged (old : Nat) : (s.budgetChanged old).alarm = s.alarm := by
  unfold State.budgetChanged
  split
  · exact State.alarm_walkFuel s _
  · exact State.alarm_suspendUntil s _ _

/-- With nothing waiting and the draws within the budget, a change of it touches no entry. -/
theorem State.settled_budget_fits (v : State) (old : Nat) (nobody : s.arb.waiting = []) (fits : s.grantSum ≤ s.budget) :
    v.settled (s.budgetChanged old) = s.restance := by
  rw [State.budgetChanged_fits s old nobody fits, State.settled_nil _ _ nobody]

/-- A rise walks the list once. -/
theorem State.settled_budget_rise (v : State) (old : Nat) (rise : old < s.budget) (entries : v.entryCount = s.entryCount)
    (count : s.walk.entryCount = s.entryCount) : v.settled (s.budgetChanged old) = s.walk.restance := by
  rw [State.budgetChanged, if_pos rise, State.settled_kept _ _ (by rw [count, entries])]

theorem budgetOf_antitone (base : Nat) {m n : Nat} (le : m ≤ n) : budgetOf base n ≤ budgetOf base m := by
  unfold budgetOf
  refine max_le_max le_rfl (Nat.div_le_div_right (Nat.mul_le_mul_left _ ?_))
  omega

/-- What of the groups and of the entries the statement's `same` compares. -/
def State.undisturbed (t : State) : Prop :=
  t.arb.grants = s.arb.grants ∧ t.arb.waiting = s.arb.waiting ∧ t.ch = s.ch ∧ t.rooms = s.rooms ∧ t.jk = s.jk ∧ t.aw = s.aw
    ∧ t.fe = s.fe ∧ t.guard = s.guard

/-! ## The release of a grant (R112) -/

theorem State.namedGroups_room (q : RoomId) (present : s.straps.hasRoom q = true) :
    s.namedGroups (byteNum (2 ^ (q.num + 1))) = [.room q] := by
  have only : inMask (byteNum (2 ^ (q.num + 1))) = fun g => decide (g = .room q) := by
    funext g
    rcases g with _ | r | _
    · cases q <;> decide
    · cases q <;> cases r <;> decide
    · cases q <;> decide
  have one : s.presentGroups.count (.room q) = 1 :=
    List.count_eq_one_of_mem (State.presentGroups_nodup s) ((State.mem_presentGroups s).mpr present)
  rw [State.namedGroups, only, List.filter_eq, one]
  rfl

theorem State.dropSupply_holder {g : Group} (holds : s.holds g = true) (free : s.waits g = false) :
    (s.dropSupply g).arb.waiting = s.arb.waiting
      ∧ (s.dropSupply g).arb.grants = s.arb.grants.filter fun e => decide (e.holder ≠ g) := by
  have keeps : s.arb.waiting.filter (fun e => decide (e.holder ≠ g)) = s.arb.waiting := by
    refine List.filter_eq_self.mpr fun e mem => ?_
    simpa [State.waits] using List.any_eq_false.mp free e mem
  rw [State.dropSupply, if_pos (by simp [holds]), Arbiter.sagIfEmpty_waiting, Arbiter.sagIfEmpty_grants]
  exact ⟨keeps, rfl⟩

theorem State.stop_walks (tag : Byte) (q : RoomId) (ready : s.ready) (present : s.straps.hasRoom q = true)
    (work : s.working (.room q)) (holds : s.holds (.room q) = true) (free : s.waits (.room q) = false) :
    s.walksTo (.stop tag (byteNum (2 ^ (q.num + 1)))) (s.arb.grants.filter fun e => decide (e.holder ≠ .room q))
      s.budget := by
  obtain ⟨k, next, -, -⟩ := ready.takes tag (.stop (byteNum (2 ^ (q.num + 1)))) []
    (s.endMoves (s.namedGroups (byteNum (2 ^ (q.num + 1)))) .hostStop) (by cases q <;> rfl) rfl (by simp)
  obtain ⟨u, ended, -, others, -, -, arb, chan, -, fe, -⟩ :=
    State.finishRoom_spec s q .hostStop (s.room q).known (s.room q).endPos work
  obtain ⟨waiting, grants⟩ := State.dropSupply_holder s holds free
  have each : s.endEach .hostStop [.room q] = u := ended
  have meters : u.arb.meters = s.arb.meters := by
    rw [← each]
    exact ((Supply.Eases.refl s.supply).endEach .hostStop _).meters
  have fewer : u.entryCount < s.entryCount := by
    obtain ⟨e, mem, holder⟩ := List.any_eq_true.mp holds
    have less : (s.arb.grants.filter fun e => decide (e.holder ≠ .room q)).length < s.arb.grants.length :=
      List.length_filter_lt_length_iff_exists.mpr ⟨e, mem, by simpa using holder⟩
    simp only [State.entryCount, arb, waiting, grants]
    omega
  have walked : s.endMoves (s.namedGroups (byteNum (2 ^ (q.num + 1)))) .hostStop = u.walk.restance := by
    rw [State.namedGroups_room s q present, State.endMoves_eq, each, State.settled, State.walkAfter, if_pos fewer]
  have row : exec (.stop tag (byteNum (2 ^ (q.num + 1)))) s = .next { u.walk.restance with link := k } := by
    rw [← walked]
    exact next
  refine State.WalksAt.walksTo (u := u) ⟨fun _ => ⟨k, row⟩, by rw [arb, waiting], by rw [arb, grants],
    congrArg Meters.budget meters, fun r waits => ?_⟩
  have other : r ≠ q := by
    rintro rfl
    exact absurd (free.symm.trans waits) Bool.false_ne_true
  exact ⟨others r other, by rw [State.sense, fe]; rfl, fun d => (chan (.drive r d)).trans (if_neg (by simp [other]))⟩

/-! ## A change of the base or of the level (R98 to R100) -/

variable {s}

/-- An event that raises the budget of `u`, with the groups and the entries of `s`, ends with the walk. -/
theorem State.rise_walks {u v : State} {c : Instr} {old : Nat} {k : Link}
    (next : exec c s = .next { v.settled (u.budgetChanged old) with link := k }) (rise : old < u.budget)
    (entries : v.entryCount = u.entryCount) (same : s.undisturbed u) : s.walksTo c s.arb.grants u.budget := by
  obtain ⟨grants, waiting, ch, rooms, -, -, fe, -⟩ := same
  refine State.WalksAt.walksTo (u := u) ⟨fun count => ⟨k, ?_⟩, waiting, grants, rfl, fun r _ => ⟨?_, ?_, fun d => ?_⟩⟩
  · rw [next, State.settled_budget_rise u v old rise entries count]
  · rw [State.room, State.room, rooms]
  · rw [State.sense, State.sense, fe]
  · rw [State.chan, State.chan, ch]

variable (s)

/-- The base after a change of one of the two inputs (R98). -/
theorem State.inputBase_toggled (charging : Bool) : (s.setInputs (s.inputs.toggled charging)).inputBase
    = if (s.inputs.engine.level ^^ !charging) || (s.inputs.charging.level ^^ charging) then 240 else 160 := by
  cases charging <;> simp [State.inputBase, Inputs.toggled, InputLine.becomesHigh]

theorem Inputs.toggles_of_run (i : Inputs) (charging : Bool)
    (run : if charging then 5 ≤ i.charging.run else 5 ≤ i.engine.run) : i.toggles charging = true := by
  cases charging
  · exact InputLine.changes_of (by simp) run
  · exact InputLine.changes_of (by simp) run

/-- A change of an input that sets the base (R98). -/
theorem State.input_rebases (awake : s.power = .awake) (charging : Bool)
    (run : if charging then 5 ≤ s.inputs.charging.run else 5 ≤ s.inputs.engine.run) :
    let base := if (s.inputs.engine.level ^^ !charging) || (s.inputs.charging.level ^^ charging) then 240 else 160
    ∃ t, exec (.engineOrChargingChange charging) s = .next t ∧ t.arb.base = base ∧ t.arb.level = s.arb.level
      ∧ (s.arb.waiting = [] → s.grantSum ≤ budgetOf base s.arb.level → s.undisturbed t)
      ∧ (s.budget < budgetOf base s.arb.level →
          s.walksTo (.engineOrChargingChange charging) s.arb.grants (budgetOf base s.arb.level)) := by
  intro base
  obtain ⟨k, next, -⟩ := State.change_next s awake _ (s.inputs.toggled charging) (fun t => t.settled t.rebase)
    (s.inputs.toggles_of_run charging run)
  obtain ⟨v, set⟩ : ∃ v, s.setInputs (s.inputs.toggled charging) = v := ⟨_, rfl⟩
  obtain ⟨u, based⟩ : ∃ u : State, { v with arb := { v.arb with base := base } } = u := ⟨_, rfl⟩
  have rebased : v.rebase = u.budgetChanged s.budget := by
    have same : v.inputBase = base := by rw [← set]; exact State.inputBase_toggled s charging
    rw [State.rebase, same, based, ← set]
    rfl
  have row : exec (.engineOrChargingChange charging) s = .next { v.settled (u.budgetChanged s.budget) with link := k } := by
    rw [← rebased, ← set]
    exact next
  have meters : (v.settled (u.budgetChanged s.budget)).arb.meters = u.arb.meters := by simp
  have kept : s.undisturbed u := by rw [← based, ← set]; exact ⟨rfl, rfl, rfl, rfl, rfl, rfl, rfl, rfl⟩
  have budget : u.budget = budgetOf base s.arb.level := by rw [← based, ← set]; rfl
  have ⟨grants, waiting, _⟩ := kept
  refine ⟨_, row, (congrArg Meters.base meters).trans (by rw [← based]; rfl),
    (congrArg Meters.level meters).trans (by rw [← based, ← set]; rfl), fun nobody fits => ?_, fun rise => ?_⟩
  · rw [State.settled_budget_fits u v _ (by rw [waiting, nobody]) (by rw [budget, State.grantSum, grants]; exact fits)]
    exact kept
  · rw [← budget] at rise ⊢
    exact State.rise_walks row rise (by rw [← based]; rfl) kept

/-! ## A sag (R99, R110) -/

/-- A room at work is suspended with its channels off; its run time stays (R71, R110). -/
theorem State.suspendRoom_spec (r : RoomId) (w : RoomWork) (st : (s.room r).st = .work w) :
    (s.suspendRoom r).room r = { s.room r with
        st := .suspended w, pinLeft := none, ctrlLeft := none, causes := { (s.room r).causes with supply := true } }
      ∧ (s.suspendRoom r).roomStill r ∧ (s.suspendRoom r).arb = s.arb := by
  have off : (s.roomOff r).room r = s.room r := by simp [State.room]
  have ch : (s.suspendRoom r).ch = (s.roomOff r).ch := by simp only [State.suspendRoom, State.haltRoom, State.setRoom_ch]
  have still : (s.suspendRoom r).roomStill r := by
    simpa only [State.roomStill, State.driven, State.chan, ch] using State.roomOff_still s r
  have arb : (s.suspendRoom r).arb = s.arb := by
    simp only [State.suspendRoom, State.haltRoom, State.setRoom_arb, State.roomOff_arb]
  refine ⟨?_, still, arb⟩
  simp only [State.suspendRoom, State.haltRoom, State.room_setRoom_same, off, st]

/-- The one holder of a grant that no longer fits is suspended, and no other (R109). -/
theorem State.suspendUntil_single {g : Grant} (one : s.arb.grants = [g]) (cls : g.cls ≠ .stow) (exceeds : s.budget < g.draw) :
    s.suspendUntil 0 s.arb.grants.length = s.suspendHolder g := by
  have sum : s.grantSum = g.draw := by simp [State.grantSum, sumDraws, one]
  have victim : victimOf s.arb.grants = some g := by rw [one]; exact if_neg cls
  have length : s.arb.grants.length = 1 := by rw [one]; rfl
  rw [length, State.suspendUntil, if_neg (by omega), victim]
  rfl

/-- What a suspension of the one holder, a room at work, leaves behind (R71, R110). -/
theorem State.suspendHolder_single {r : RoomId} {d : Nat} {w : RoomWork}
    (one : s.arb.grants = [{ holder := .room r, cls := .room, draw := d }]) (nobody : s.arb.waiting = [])
    (st : (s.room r).st = .work w) :
    ∃ t, s.suspendHolder { holder := .room r, cls := .room, draw := d } = t ∧ t.arb.grants = []
      ∧ t.arb.waiting = [{ holder := .room r, cls := .room, draw := d, before := true }]
      ∧ (t.room r).st = .suspended w ∧ (t.room r).causes = { (s.room r).causes with supply := true }
      ∧ (t.room r).runMs = (s.room r).runMs ∧ t.roomStill r ∧ t.arb.sagRun = 0 := by
  obtain ⟨u, entries⟩ : ∃ u : State, { s with arb := { s.arb with
    grants := [], waiting := [{ holder := .room r, cls := .room, draw := d, before := true }], sagRun := 0 } } = u :=
    ⟨_, rfl⟩
  have suspends : s.suspendHolder { holder := .room r, cls := .room, draw := d } = u.suspendRoom r := by
    simp [State.suspendHolder, one, nobody, Arbiter.sagIfEmpty, State.notifySuspend, ← entries]
  obtain ⟨room, still, arb⟩ := State.suspendRoom_spec u r w (by rw [← entries]; exact st)
  rw [suspends]
  exact ⟨_, rfl, by rw [arb, ← entries], by rw [arb, ← entries], by rw [room], by rw [room, ← entries]; rfl,
    by rw [room, ← entries]; rfl, still, by rw [arb, ← entries]⟩

theorem State.sag_row (grants : s.arb.grants ≠ []) (run : 26 ≤ s.arb.sagRun) :
    exec .sagComplete s = s.ifAwake s.sagged := by
  have complete : (!s.arb.grants.isEmpty && decide (sagSamples ≤ s.arb.sagRun)) = true := by
    rw [Bool.and_eq_true]
    exact ⟨by simpa using grants, decide_eq_true run⟩
  exact congrArg s.ifAwake (if_pos complete)

/-- The state in which the budget falls at a sag: the measurement starts again and SUPERVISION joins (R99). -/
def State.sagNoted : State := (s.modArb fun a => { a with sagRun := 1 }).joinSupervision SupCauses.addBudget

/-- The same with the level one higher. -/
def State.degraded : State := { s.sagNoted with arb := { s.arb with sagRun := 1, level := s.arb.level + 1 } }

theorem State.sagNoted_spec :
    ∃ (sa : StanceAttention) (b : Bool),
      s.sagNoted = { s with arb := { s.arb with sagRun := 1 }, sa := sa, link := { s.link with notice := b } }
        ∧ sa.supervision = true ∧ sa.causes.budgetDegraded = true := by
  obtain ⟨sa, b, eq, member, c, causes⟩ :=
    State.joinSupervision_spec (s.modArb fun a => { a with sagRun := 1 }) SupCauses.addBudget
  exact ⟨sa, b, eq, member, congrArg SupCauses.budgetDegraded causes⟩

theorem State.sagged_low (low : s.arb.level < 3) :
    s.sagged = s.sagNoted.settled (s.degraded.budgetChanged s.budget) := by
  obtain ⟨sa, b, noted, -⟩ := State.sagNoted_spec s
  have level : s.sagNoted.arb = { s.arb with sagRun := 1 } := by rw [noted]
  have budget : s.sagNoted.budget = s.budget := by rw [noted]; rfl
  have falls : s.sagNoted.setLevel (s.sagNoted.arb.level + 1) = s.degraded.budgetChanged s.budget := by
    rw [State.setLevel, budget, level]
    rfl
  rw [← falls]
  exact if_pos low

theorem State.sagged_lowest (low : 3 ≤ s.arb.level) : s.sagged = s.modArb fun a => { a with sagRun := 1 } :=
  if_neg (Nat.not_lt.mpr low)

theorem State.degraded_spec :
    ∃ (sa : StanceAttention) (b : Bool), s.degraded = { s with
        arb := { s.arb with sagRun := 1, level := s.arb.level + 1 }, sa := sa, link := { s.link with notice := b } }
      ∧ sa.supervision = true ∧ sa.causes.budgetDegraded = true := by
  obtain ⟨sa, b, noted, member⟩ := State.sagNoted_spec s
  exact ⟨sa, b, by rw [State.degraded, noted], member⟩

theorem State.sagNoted_entries : s.sagNoted.entryCount = s.entryCount := by
  obtain ⟨sa, b, noted, -⟩ := State.sagNoted_spec s
  rw [noted]
  rfl

/-- A sag of a supply whose one holder no longer fits suspends it. -/
theorem State.sagged_single {r : RoomId} {d : Nat} {w : RoomWork} (low : s.arb.level < 3) (nobody : s.arb.waiting = [])
    (one : s.arb.grants = [{ holder := .room r, cls := .room, draw := d }])
    (exceeds : budgetOf s.arb.base (s.arb.level + 1) < d) (st : (s.room r).st = .work w) :
    ∃ t : State, s.sagged = t.restance ∧ t.arb.grants = []
      ∧ t.arb.waiting = [{ holder := .room r, cls := .room, draw := d, before := true }]
      ∧ (t.room r).st = .suspended w ∧ (t.room r).causes = { (s.room r).causes with supply := true }
      ∧ (t.room r).runMs = (s.room r).runMs ∧ t.roomStill r ∧ t.arb.sagRun = 0 := by
  obtain ⟨sa, b, deg, -⟩ := State.degraded_spec s
  have fall : ¬ s.budget < s.degraded.budget := Nat.not_lt.mpr (budgetOf_antitone _ (Nat.le_succ _))
  have room : s.degraded.room r = s.room r := by rw [deg]; rfl
  obtain ⟨t, eq, grants, waiting, suspended, causes, runMs, still, sagRun⟩ :=
    State.suspendHolder_single s.degraded one nobody (w := w) (by rw [room]; exact st)
  have victim : s.degraded.budgetChanged s.budget = t := by
    rw [State.budgetChanged, if_neg fall, State.suspendUntil_single s.degraded one (by simp) exceeds, eq]
  have entries : s.sagNoted.entryCount ≤ t.entryCount := by
    rw [State.sagNoted_entries]
    simp [State.entryCount, one, nobody, grants, waiting]
  refine ⟨t, ?_, grants, waiting, suspended, by rw [causes, room], by rw [runMs, room], still, sagRun⟩
  rw [State.sagged_low s low, victim, State.settled_kept _ _ entries]

/-- A sag (R99, R110, R111). -/
theorem State.sag_lowers (awake : s.power = .awake) (granted : s.arb.grants ≠ []) (run : 26 ≤ s.arb.sagRun) :
    ∃ t, exec .sagComplete s = .next t ∧ t.arb.base = s.arb.base ∧ t.framed = s.framed
      ∧ t.arb.level = (if s.arb.level < 3 then s.arb.level + 1 else s.arb.level)
      ∧ (s.arb.level < 3 → t.sa.supervision = true ∧ t.sa.causes.budgetDegraded = true)
      ∧ (s.arb.level < 3 → s.arb.waiting = [] → s.grantSum ≤ budgetOf s.arb.base (s.arb.level + 1) →
          s.undisturbed t ∧ t.arb.sagRun = 1)
      ∧ (3 ≤ s.arb.level → s.undisturbed t ∧ t.sa = s.sa ∧ t.arb.sagRun = 1)
      ∧ (∀ r d w, s.arb.level < 3 → s.arb.waiting = [] → s.arb.grants = [{ holder := .room r, cls := .room, draw := d }] →
          budgetOf s.arb.base (s.arb.level + 1) < d → (s.room r).st = .work w →
          t.arb.grants = [] ∧ t.arb.waiting = [{ holder := .room r, cls := .room, draw := d, before := true }]
            ∧ (t.room r).st = .suspended w ∧ (t.room r).causes = { (s.room r).causes with supply := true }
            ∧ (t.room r).runMs = (s.room r).runMs ∧ t.roomStill r ∧ t.arb.sagRun = 0) := by
  obtain ⟨k, next, sent⟩ := State.awake_next s awake s.sagged
  rw [← State.sag_row s granted run] at next
  by_cases low : s.arb.level < 3
  · obtain ⟨sa, b, deg, member, cause⟩ := State.degraded_spec s
    have meters : s.sagged.arb.meters = s.degraded.arb.meters := by rw [State.sagged_low s low]; simp
    have alarm : s.sagged.alarm = (sa.supervision, sa.causes) := by
      rw [State.sagged_low s low, State.alarm_settled, State.alarm_budgetChanged, deg]
      rfl
    have framed : s.sagged.framed = s.degraded.framed := State.framed_of_still (by
      rw [State.sagged_low s low, State.still_settled, State.still_budgetChanged])
    refine ⟨_, next, congrArg Meters.base meters, sent.trans (framed.trans (by rw [deg]; rfl)),
      (congrArg Meters.level meters).trans (if_pos low).symm,
      fun _ => ⟨(congrArg Prod.fst alarm).trans member, (congrArg (fun p => p.2.budgetDegraded) alarm).trans cause⟩,
      fun _ nobody fits => ?_, fun high => absurd low (Nat.not_lt.mpr high), fun r d w _ nobody one exceeds st => ?_⟩
    · rw [State.sagged_low s low, State.settled_budget_fits s.degraded _ _ nobody fits, deg]
      exact ⟨⟨rfl, rfl, rfl, rfl, rfl, rfl, rfl, rfl⟩, rfl⟩
    · obtain ⟨t, eq, suspended⟩ := State.sagged_single s low nobody one exceeds st
      rw [eq]
      exact suspended
  · have lowest := State.sagged_lowest s (Nat.not_lt.mp low)
    rw [lowest] at next sent
    exact ⟨_, next, rfl, sent, (if_neg low).symm, fun low' => absurd low' low, fun low' => absurd low' low,
      fun _ => ⟨⟨rfl, rfl, rfl, rfl, rfl, rfl, rfl, rfl⟩, rfl, rfl⟩, fun _ _ _ low' => absurd low' low⟩

/-! ## A recovery (R100) -/

theorem State.recovery_row (run : 251 ≤ s.arb.recRun) : exec .recoveryComplete s = s.ifAwake s.recovered :=
  congrArg s.ifAwake (if_pos run)

/-- The state in which the list is walked: the level one lower (R100). -/
def State.recoveredTo : State := s.modArb fun a => { a with recRun := 1, level := a.level - 1 }

theorem State.recovered_above (level : 0 < s.arb.level) :
    s.recovered = (s.modArb fun a => { a with recRun := 1 }).settled (s.recoveredTo.budgetChanged s.budget) := if_pos level

/-- At level 0 the measurement starts again, and nothing else happens. -/
theorem State.recovered_least (level : ¬ 0 < s.arb.level) : s.recovered = s.recoveredTo := by
  have zero : s.arb.level = 0 := by omega
  refine (if_neg level).trans ?_
  simp [State.recoveredTo, State.modArb, zero]

/-- A recovery (R100, R107, R111). -/
theorem State.recovery_raises (awake : s.power = .awake) (run : 251 ≤ s.arb.recRun) :
    ∃ t, exec .recoveryComplete s = .next t ∧ t.arb.level = s.arb.level - 1 ∧ t.arb.base = s.arb.base
      ∧ t.arb.recRun = 1 ∧ t.framed = s.framed
      ∧ (s.arb.waiting = [] → s.grantSum ≤ budgetOf s.arb.base (s.arb.level - 1) → s.undisturbed t)
      ∧ (s.budget < budgetOf s.arb.base (s.arb.level - 1) →
          s.walksTo .recoveryComplete s.arb.grants (budgetOf s.arb.base (s.arb.level - 1))) := by
  obtain ⟨k, next, sent⟩ := State.awake_next s awake s.recovered
  rw [← State.recovery_row s run] at next
  by_cases level : 0 < s.arb.level
  · have meters : s.recovered.arb.meters = s.recoveredTo.arb.meters := by rw [State.recovered_above s level]; simp
    have framed : s.recovered.framed = s.recoveredTo.framed := State.framed_of_still (by
      rw [State.recovered_above s level, State.still_settled, State.still_budgetChanged])
    refine ⟨_, next, congrArg Meters.level meters, congrArg Meters.base meters, congrArg Meters.recRun meters,
      sent.trans framed, fun nobody fits => ?_, fun rise => ?_⟩
    · rw [State.recovered_above s level, State.settled_budget_fits s.recoveredTo _ _ nobody fits]
      exact ⟨rfl, rfl, rfl, rfl, rfl, rfl, rfl, rfl⟩
    · rw [State.recovered_above s level] at next
      exact State.rise_walks (u := s.recoveredTo) next rise rfl ⟨rfl, rfl, rfl, rfl, rfl, rfl, rfl, rfl⟩
  · have zero : s.arb.level = 0 := by omega
    rw [State.recovered_least s level] at next sent
    refine ⟨_, next, rfl, rfl, rfl, sent, fun _ _ => ⟨rfl, rfl, rfl, rfl, rfl, rfl, rfl, rfl⟩, fun rise => ?_⟩
    rw [zero, State.budget, zero] at rise
    exact absurd rise (lt_irrefl _)

/-- Settles O44: the release of a grant, the change of an input, the sag and the recovery. -/
theorem budgetFollowsTheSupply : Obligations.BudgetFollowsTheSupply := by
  unfold Obligations.BudgetFollowsTheSupply
  intro s awake same walks
  exact ⟨fun tag q ready present work holds free => State.stop_walks s tag q ready present work holds free,
    fun charging run => State.input_rebases s awake charging run,
    fun granted run => State.sag_lowers s awake granted run, fun run => State.recovery_raises s awake run⟩

end Sys2Proof.Machine
end
